-- ==== Sys2Proof/Word.lean ====
section
/-! DEFINITION. The word types of the CPD (00_scope.md R6, R9): plain names for bit patterns, so that
`BitVec` lemmas apply to them unchanged. -/

namespace Sys2Proof

/-- A register value: every register value is a 32-bit pattern (R9). -/
abbrev Word := BitVec 32

/-- A byte offset of the host port, 0x00 to 0xFF (R6). -/
abbrev Offset := BitVec 8

/-- A byte returned by a sensor (10_state.md R27, R29). -/
abbrev Byte := BitVec 8

/-- A raw calibration word, 16 bits (R6). -/
abbrev Half := BitVec 16

/-- A 20-bit unsigned count: a raw ADC count or a decoded humidity or temperature field (R6). -/
abbrev Count := BitVec 20

/-- A host transaction in the 41-bit form of 30_encoding.md R68. -/
abbrev TransferWord := BitVec 41

end Sys2Proof
end

