-- ==== Sys2Proof/Config.lean ====
section
/-! DEFINITION. What an implementation or its host fixes and the spec leaves open (00_scope.md R8). Each is an
opaque constant: no proof can see its value. No rule of the block's results depends on any of them, and no
definition of the machine reads them; the host's invocations of Machine/Invocation.lean read the last two. -/

namespace Sys2Proof

/-- CMD_LATENCY (92_eei_decisions.md D24): the time a command takes, in a unit of the implementation's.
It is not observable (70_reset_and_hazards.md R187). -/
opaque Config.cmdLatency : Nat

/-- HOST_CAL_POLL_LIMIT (92_eei_decisions.md D25): the bound the host puts on its calibration wait, `none` for the
unbounded loop of the source's reference. -/
opaque Config.hostCalPollLimit : Option Nat

/-- HOST_CACHES_CAL (92_eei_decisions.md D31): whether the host keeps the calibration table across
invocations. Results are equal either way (41_compensation.md R98). -/
opaque Config.hostCachesCal : Bool

end Sys2Proof
end

