-- ==== Sys2Proof/Syntax.lean ====
section
/-! DEFINITION. What the host can say to the CPD: its registers by name, the ten rows of the opcode table, the
requests they travel in, and the assembler's statements. -/

namespace Sys2Proof

/-- The registers of the map of 10_state.md R18, by name. -/
inductive Reg where
  | cmd | status | htIn0 | htIn1 | adctIn | adcpIn
  | cal (k : Fin 12)
  | humRaw | htempRaw | ut | tfine | tout | up | pout
deriving DecidableEq, Repr

/-- The access codes of 10_state.md R18. -/
inductive Access where
  | writeOnly | readOnly | readWrite
deriving DecidableEq, Repr

/-- The eight commands of 30_encoding.md R63. No command has an operand (R64). -/
inductive Command where
  | nop | decht | compt | compp | comptp | clrcal | clrerr | srst
deriving DecidableEq, Repr

/-- The instructions: one constructor per row of opcode_table.json. The eight commands, and the two host
transactions WR and RD with their raw byte offset (30_encoding.md R68, R69). -/
inductive Instr where
  | nop
  | decht
  | compt
  | compp
  | comptp
  | clrcal
  | clrerr
  | srst
  | wr (off : Offset) (data : Word)
  | rd (off : Offset)
deriving DecidableEq, Repr

/-- The instruction that a command is. -/
def Instr.ofCommand : Command → Instr
  | .nop => .nop
  | .decht => .decht
  | .compt => .compt
  | .compp => .compp
  | .comptp => .comptp
  | .clrcal => .clrcal
  | .clrerr => .clrerr
  | .srst => .srst

/-- A transaction as it stands at the port, in one of the two formats of the opcode table.
`command w` is format CW: the write of `w` to CMD (30_encoding.md R61). `transfer` is format TW: the port signals
`we`, `addr` and `wdata` (20_memory.md R41). -/
inductive Request where
  | command (w : Word)
  | transfer (we : Bool) (off : Offset) (wdata : Word)
deriving DecidableEq, Repr

/-- The place a statement of the assembler names: a register, or a raw offset written `@imm8`
(30_encoding.md R69). -/
inductive Place where
  | named (r : Reg)
  | raw (off : Offset)
deriving DecidableEq, Repr

/-- The assembler's statements and pseudo-instructions (30_encoding.md R69, R70). -/
inductive Stmt where
  | wr (p : Place) (imm : Int)
  | rd (p : Place)
  | cmd (c : Command)
  | ldht (b0 b1 b2 b3 b4 b5 b6 : Byte)
  | ldadct (x0 x1 x2 : Byte)
  | ldadcp (x0 x1 x2 : Byte)
  | ldcal (w : Vector Half 12)
  | ldcalb (c : Vector Byte 24)
deriving DecidableEq, Repr

end Sys2Proof
end

