-- ==== Sys2Proof/WellFormed.lean ====
section
/-! DEFINITION. Which words and statements are well formed. An instruction's operands carry their ranges in their
types (an 8-bit offset, a 32-bit data word), so every `Instr` is well formed; what can be ill formed is the word
that should encode one (30_encoding.md R61, R67, R68) and the immediate of an assembler statement (R69). -/

namespace Sys2Proof

/-- A well-formed instruction: each operand lies in the range its encoding admits, which its type already says.
Any offset is admitted, the misaligned and unmapped ones too (`@imm8` of 30_encoding.md R69). -/
def Instr.wellFormed : Instr → Bool
  | .nop => true
  | .decht => true
  | .compt => true
  | .compp => true
  | .comptp => true
  | .clrcal => true
  | .clrerr => true
  | .srst => true
  | .wr _ _ => true
  | .rd _ => true

/-- A legal command word: bits 31:4 are zero, and OP is 0x0 to 0x6 or 0xF (30_encoding.md R67). -/
def commandWordLegal (w : Word) : Bool :=
  decide (w.toNat ≤ 6) || decide (w.toNat = 15)

/-- A well-formed transaction word: DATA is 0 in a read (30_encoding.md R68). -/
def transferWordLegal (tw : TransferWord) : Bool :=
  tw.getLsbD 40 || decide (tw.toNat % 2 ^ 32 = 0)

/-- An immediate the assembler admits: a 32-bit pattern, or a negative value that has one
(30_encoding.md R69). -/
def immediateLegal (imm : Int) : Bool :=
  decide (-2 ^ 31 ≤ imm) && decide (imm < 2 ^ 32)

/-- A well-formed statement of the assembler. -/
def Stmt.wellFormed : Stmt → Bool
  | .wr _ imm => immediateLegal imm
  | .rd _ => true
  | .cmd _ => true
  | .ldht _ _ _ _ _ _ _ => true
  | .ldadct _ _ _ => true
  | .ldadcp _ _ _ => true
  | .ldcal _ => true
  | .ldcalb _ => true

end Sys2Proof
end

