-- ==== Sys2Proof/Decode.lean ====
section
/-! DEFINITION. From words to instructions and back: the command word CW (30_encoding.md R61 to R63), the
transaction word TW (R68), and the port's own form of a transaction (20_memory.md R41). -/

namespace Sys2Proof

/-- Why a word is refused by the decoder. -/
inductive DecodeError where
  /-- A command word with a bit of 31:4 set (30_encoding.md R67): the hardware raises ILLEGAL_CMD. -/
  | reservedBits
  /-- A command word with OP 0x7 to 0xE (30_encoding.md R67): the hardware raises ILLEGAL_CMD. -/
  | reservedOpcode
  /-- A transaction word of a read with DATA ≠ 0 (30_encoding.md R68): not a word of the notation. -/
  | readDataNotZero
  /-- A number too large for its format: not a word at all. -/
  | tooWide
deriving DecidableEq, Repr

/-- The field OP, bits 3:0 of a command word (30_encoding.md R61). -/
def commandOp (w : Word) : BitVec 4 := w.extractLsb' 0 4

/-- The field RSV, bits 31:4 of a command word (30_encoding.md R61). -/
def commandReserved (w : Word) : BitVec 28 := w.extractLsb' 4 28

/-- The command a word written to CMD encodes (30_encoding.md R62, R63). -/
def decodeCommand (w : Word) : Except DecodeError Command :=
  if commandReserved w = 0#28 then
    match commandOp w with
    | 0x0#4 => .ok .nop
    | 0x1#4 => .ok .decht
    | 0x2#4 => .ok .compt
    | 0x3#4 => .ok .compp
    | 0x4#4 => .ok .comptp
    | 0x5#4 => .ok .clrcal
    | 0x6#4 => .ok .clrerr
    | 0xF#4 => .ok .srst
    | _ => .error .reservedOpcode
  else .error .reservedBits

/-- The instruction a transaction at the port is. `wdata` is ignored for a read (20_memory.md R41). -/
def decode : Request → Except DecodeError Instr
  | .command w => (decodeCommand w).map Instr.ofCommand
  | .transfer true off wdata => .ok (.wr off wdata)
  | .transfer false off _ => .ok (.rd off)

/-- The port signals a transaction word stands for: W at bit 40, OFF at 39:32, DATA at 31:0 (30_encoding.md R68). -/
def requestOfTransferWord (tw : TransferWord) : Request :=
  .transfer (tw.getLsbD 40) (tw.extractLsb' 32 8) (tw.extractLsb' 0 32)

/-- The instruction a transaction word encodes (30_encoding.md R68): a read's DATA must be 0. -/
def decodeTransferWord (tw : TransferWord) : Except DecodeError Instr :=
  if tw.getLsbD 40 = false ∧ tw.extractLsb' 0 32 ≠ 0#32 then .error .readDataNotZero
  else decode (requestOfTransferWord tw)

/-- A word of the opcode table read as a number: up to 32 bits it is in format CW, above that in format TW
(opcode_table.json: the command rows have 32 bits, WR and RD have 41). -/
def decodeTableNumber (nbits w : Nat) : Except DecodeError Instr :=
  if nbits ≤ 32 then
    if w < 2 ^ 32 then decode (.command (BitVec.ofNat 32 w)) else .error .tooWide
  else
    if w < 2 ^ 41 then decodeTransferWord (BitVec.ofNat 41 w) else .error .tooWide

/-- The instruction the decoder reads from a word of the opcode table, `none` where it refuses. -/
def decodeTableWord (nbits w : Nat) : Option Instr :=
  match decodeTableNumber nbits w with
  | .ok i => some i
  | .error _ => none

/-- The request that a word of the opcode table is, as the host puts it on the port. -/
def requestOfTableWord (nbits w : Nat) : Request :=
  if nbits ≤ 32 then .command (BitVec.ofNat 32 w) else requestOfTransferWord (BitVec.ofNat 41 w)

/-! The encoder, written from the same tables. -/

/-- The command word of each command (30_encoding.md R63). -/
def encodeCommand : Command → Word
  | .nop => 0x00000000#32
  | .decht => 0x00000001#32
  | .compt => 0x00000002#32
  | .compp => 0x00000003#32
  | .comptp => 0x00000004#32
  | .clrcal => 0x00000005#32
  | .clrerr => 0x00000006#32
  | .srst => 0x0000000F#32

/-- The transaction word with the given fields (30_encoding.md R68). -/
def transferWord (we : Bool) (off : Offset) (data : Word) : TransferWord :=
  BitVec.ofBool we ++ off ++ data

/-- The request that asks for an instruction; DATA of a read is 0 (30_encoding.md R63, R68). -/
def encode : Instr → Request
  | .nop => .command (encodeCommand .nop)
  | .decht => .command (encodeCommand .decht)
  | .compt => .command (encodeCommand .compt)
  | .compp => .command (encodeCommand .compp)
  | .comptp => .command (encodeCommand .comptp)
  | .clrcal => .command (encodeCommand .clrcal)
  | .clrerr => .command (encodeCommand .clrerr)
  | .srst => .command (encodeCommand .srst)
  | .wr off data => .transfer true off data
  | .rd off => .transfer false off 0#32

/-- The number of bits of an instruction's word in whole bytes: 32 for a command, 48 for the 41 bits of a
transaction word. -/
def encodedBits (i : Instr) : Nat :=
  match encode i with
  | .command _ => 32
  | .transfer _ _ _ => 48

/-- An instruction's word as a number, bit 0 its least significant bit. -/
def encodedWord (i : Instr) : Nat :=
  match encode i with
  | .command w => w.toNat
  | .transfer we off data => (transferWord we off data).toNat

end Sys2Proof
end

