-- ==== Sys2Proof/Machine/State.lean ====
section
/-! DEFINITION. The state of the CPD (10_state.md), why a step can stop, and the state after reset
(70_reset_and_hazards.md R166). -/

namespace Sys2Proof.Machine

/-- Who issues a transaction. `host` is the one agent of 20_memory.md R41; `other` is a second agent on the same
port, which is outside the spec (R59). -/
inductive Agent where
  | host
  | other
deriving DecidableEq, Repr

/-- What can happen at the port: the `rst` input is asserted and released again, or an agent issues a transaction
(20_memory.md R41). -/
inductive PortEvent where
  | reset
  | transaction (agent : Agent) (request : Request)
deriving DecidableEq, Repr

/-- Why the machine stops with a fault: never. The CPD records every error in STATUS and goes on
(60_exceptions.md R146, R148), so there is no constructor; nothing raises one. -/
inductive Fault : Type
deriving DecidableEq, Repr

/-- Why the model gives a step no meaning. -/
inductive Refusal where
  /-- An instruction the model has given no meaning yet, raised by `exec`'s arm alone: none is left. Safe. -/
  | notModelled (mnemonic : String)
  /-- A second agent drives the port. Raised by `step`, as 20_memory.md R59 asks of a model. Safe. -/
  | secondHost
deriving DecidableEq, Repr

/-- The error codes a command or an access can raise (60_exceptions.md R145), 0x1 to 0x7. -/
inductive ErrCode where
  | illegalCmd
  | inputMissing
  | calMissing
  | tfineMissing
  | degenerateCal
  | pRange
  | badAccess
deriving DecidableEq, Repr

/-- The output groups of 10_state.md R25 that an operation writes, or would have written (60_exceptions.md R146):
`h` covers HUM_RAW and HTEMP_RAW, `t` covers UT, TFINE and TOUT, `p` covers UP and POUT. -/
structure OutGroups where
  h : Bool
  t : Bool
  p : Bool
deriving DecidableEq, Repr

/-- The state of the CPD, with what stands at its port. Each register is held at the width of its defined
field (20_memory.md R49); the 32-bit pattern a read returns is computed from it. -/
structure State where
  /-- STATUS.ERR (10_state.md R21). -/
  err : Bool
  /-- STATUS.ERRCODE (10_state.md R22). -/
  errcode : BitVec 4
  /-- STATUS.HIN0_V (10_state.md R23). -/
  hin0V : Bool
  /-- STATUS.HIN1_V (10_state.md R23). -/
  hin1V : Bool
  /-- STATUS.ADCT_V (10_state.md R23). -/
  adctV : Bool
  /-- STATUS.ADCP_V (10_state.md R23). -/
  adcpV : Bool
  /-- STATUS.HOUT_V (10_state.md R25). -/
  houtV : Bool
  /-- STATUS.TOUT_V (10_state.md R25). -/
  toutV : Bool
  /-- STATUS.POUT_V (10_state.md R25). -/
  poutV : Bool
  /-- STATUS.CAL_V, bit k for CALk (10_state.md R24). -/
  calV : BitVec 12
  /-- HT_IN0: bytes b0 to b3 (10_state.md R27). -/
  htIn0 : BitVec 32
  /-- HT_IN1, bits 23:0: bytes b4 to b6 (10_state.md R27). -/
  htIn1 : BitVec 24
  /-- ADCT_IN, bits 23:0 (10_state.md R29). -/
  adctIn : BitVec 24
  /-- ADCP_IN, bits 23:0 (10_state.md R29). -/
  adcpIn : BitVec 24
  /-- CAL[0] to CAL[11], the raw words (10_state.md R30; 41_compensation.md R99). -/
  cal : Vector Half 12
  /-- HUM_RAW, bits 19:0 (10_state.md R31). -/
  humRaw : Count
  /-- HTEMP_RAW, bits 19:0 (10_state.md R31). -/
  htempRaw : Count
  /-- UT, bits 19:0 (10_state.md R32). -/
  ut : Count
  /-- TFINE (10_state.md R33). -/
  tfine : Word
  /-- TOUT (10_state.md R34). -/
  tout : Word
  /-- UP, bits 19:0 (10_state.md R32). -/
  up : Count
  /-- POUT (10_state.md R35). -/
  pout : Word
  /-- The port (the model's own field): what the host has issued and the CPD has not yet performed, first to be
  performed first (20_memory.md R43). DESIGN CHOICE, entry 1: the outside world is a list in the state. -/
  pending : List PortEvent
  /-- The port (the model's own field): `rdata` of the transaction performed last if it was a read, `none` if it was
  not (20_memory.md R41). DESIGN CHOICE, entry 2. -/
  reply : Option Word
deriving DecidableEq, Repr

/-- The CPD right after reset (70_reset_and_hazards.md R166): every register and every raw calibration word is zero.
Nothing stands at the port. -/
def State.reset : State where
  err := false
  errcode := 0#4
  hin0V := false
  hin1V := false
  adctV := false
  adcpV := false
  houtV := false
  toutV := false
  poutV := false
  calV := 0#12
  htIn0 := 0#32
  htIn1 := 0#24
  adctIn := 0#24
  adcpIn := 0#24
  cal := Vector.replicate 12 0#16
  humRaw := 0#20
  htempRaw := 0#20
  ut := 0#20
  tfine := 0#32
  tout := 0#32
  up := 0#20
  pout := 0#32
  pending := []
  reply := none

end Sys2Proof.Machine
end

