-- ==== Sys2Proof/Machine/Ops.lean ====
section
/-! DEFINITION. The named operations over the state: taking an error and the return from one, reset, the writes of
the input registers, the commits of the output registers, and the two forms every command's meaning has. -/

namespace Sys2Proof.Machine

/-- The outcome of one step of this machine. -/
abbrev Result := Host.Outcome State Fault Refusal

/-! ## Taking an error, and the return from one -/

/-- The 4-bit code of an error (60_exceptions.md R145). -/
def codeBits : ErrCode → BitVec 4
  | .illegalCmd => 0x1#4
  | .inputMissing => 0x2#4
  | .calMissing => 0x3#4
  | .tfineMissing => 0x4#4
  | .degenerateCal => 0x5#4
  | .pRange => 0x6#4
  | .badAccess => 0x7#4

/-- No output group: an illegal command word and a bad access (60_exceptions.md R146). -/
def noGroups : OutGroups := { h := false, t := false, p := false }

/-- Taking an error, `record(code, G)` of 60_exceptions.md R146: the first error is recorded and a later one does
not replace its code (10_state.md R22); the valid bits of the groups `g` are cleared either way. -/
def raiseError (code : ErrCode) (g : OutGroups) (s : State) : State :=
  { s with
    err := true
    errcode := if s.err then s.errcode else codeBits code
    houtV := s.houtV && !g.h
    toutV := s.toutV && !g.t
    poutV := s.poutV && !g.p }

/-- The return from the error state: ERR and ERRCODE are cleared and nothing else (60_exceptions.md R152;
42_control.md R133). -/
def clearError (s : State) : State := { s with err := false, errcode := 0#4 }

/-! ## Reset -/

/-- Every register and raw calibration word becomes zero; what stands at the port is not the CPD's to change
(42_control.md R134; 70_reset_and_hazards.md R166). -/
def resetRegisters (s : State) : State :=
  { State.reset with pending := s.pending, reply := s.reply }

/-! ## The port -/

/-- The next event of the port begins: it is taken off the list, and no read data stands yet. -/
def beginEvent (rest : List PortEvent) (s : State) : State := { s with pending := rest, reply := none }

/-- A read transaction returns `v` (20_memory.md R41). -/
def answer (v : Word) (s : State) : State := { s with reply := some v }

/-! ## Accepted writes of the input registers
Each stores the register's defined field (20_memory.md R49), sets its input valid bit (R50) and makes the outputs
that depend on it absent (R51). -/

/-- Write of HT_IN0 (10_state.md R27). -/
def writeHtIn0 (v : Word) (s : State) : State :=
  { s with htIn0 := v, hin0V := true, houtV := false }

/-- Write of HT_IN1: bits 23:0 (10_state.md R27). -/
def writeHtIn1 (v : Word) (s : State) : State :=
  { s with htIn1 := v.extractLsb' 0 24, hin1V := true, houtV := false }

/-- Write of ADCT_IN: bits 23:0 (10_state.md R29). -/
def writeAdctIn (v : Word) (s : State) : State :=
  { s with adctIn := v.extractLsb' 0 24, adctV := true, toutV := false, poutV := false }

/-- Write of ADCP_IN: bits 23:0 (10_state.md R29). -/
def writeAdcpIn (v : Word) (s : State) : State :=
  { s with adcpIn := v.extractLsb' 0 24, adcpV := true, poutV := false }

/-- Write of CALk: bits 15:0 (10_state.md R30). CAL0 to CAL2 feed stage 1, so their write makes its outputs absent
too (20_memory.md R51). -/
def writeCal (k : Fin 12) (v : Word) (s : State) : State :=
  { s with
    cal := s.cal.set k (v.extractLsb' 0 16)
    calV := s.calV ||| BitVec.twoPow 12 k
    toutV := s.toutV && !decide (k.val < 3)
    poutV := false }

/-! ## Commits of the output registers
Each writes the registers of its groups and sets their valid bits together (41_compensation.md R101). -/

/-- DECHT's outputs (40_decoder.md R84). -/
def commitHumidity (h t : Count) (s : State) : State :=
  { s with humRaw := h, htempRaw := t, houtV := true }

/-- Stage 1's outputs (41_compensation.md R105). -/
def commitStage1 (adcT : Count) (tFine temp : Word) (s : State) : State :=
  { s with ut := adcT, tfine := tFine, tout := temp, toutV := true }

/-- Stage 2's outputs (41_compensation.md R110). -/
def commitStage2 (adcP : Count) (p : Word) (s : State) : State :=
  { s with up := adcP, pout := p, poutV := true }

/-- The calibration table is invalidated (42_control.md R132): the words stay. -/
def clearCalibration (s : State) : State :=
  { s with calV := 0#12, toutV := false, poutV := false }

/-! ## The forms of a command -/

/-- A command that the error state gates: while ERR = 1 it is ignored (60_exceptions.md R149). -/
def gated (effect : State → State) (s : State) : State :=
  if s.err then s else effect s

/-- A command that can fail: `body` gives the state with all its outputs committed, or the first error that
applies, and then the error is taken for the groups `g` (41_compensation.md R101; 60_exceptions.md R146, R150). -/
def committing (g : OutGroups) (body : State → Except ErrCode State) (s : State) : State :=
  match body s with
  | .ok t => t
  | .error code => raiseError code g s

/-- A write of an illegal word to CMD (30_encoding.md R67): ILLEGAL_CMD, ignored while ERR = 1
(60_exceptions.md R149). -/
def illegalCommand (s : State) : State := gated (raiseError .illegalCmd noGroups) s

/-- A bad write access (20_memory.md R47): BAD_ACCESS, no register and no valid bit changes. -/
def badWrite (s : State) : State := raiseError .badAccess noGroups s

end Sys2Proof.Machine
end

