-- ==== Sys2Proof/Machine/Operands.lean ====
section
/-! DEFINITION. The integer primitives of 00_scope.md R10 and the operands each command forms from the input
registers (30_encoding.md R65). -/

namespace Sys2Proof.Machine

/-! ## Integer primitives (00_scope.md R10) -/

/-- `x << k`: exact multiplication by 2^k. -/
def shl (x : Int) (k : Nat) : Int := x * 2 ^ k

/-- `asr(x, k)`: floor of x / 2^k. Division of `Int` by a positive number rounds toward minus infinity. -/
def asr (x : Int) (k : Nat) : Int := x / 2 ^ k

/-- `tdiv(n, d)`: division truncated toward zero (41_compensation.md R111). -/
def tdiv (n d : Int) : Int := Int.tdiv n d

/-- `s16(v)`: a 16-bit word with values of 32768 and more made negative by subtracting 65536 (41_compensation.md R99). -/
def s16 (v : Half) : Int :=
  if 32768 ≤ v.toNat then (v.toNat : Int) - 65536 else v.toNat

/-- `pat32(x)`: the 32-bit two's complement pattern of x. -/
def pat32 (x : Int) : Word := BitVec.ofInt 32 x

/-- `sext_32(v)`: a 32-bit pattern read as two's complement. -/
def sext32 (v : Word) : Int := v.toInt

/-! ## The humidity sequence (40_decoder.md R81 to R83) -/

/-- `S = {HT_IN0, HT_IN1[23:0]}`: b0 in bits 55:48, b6 in bits 7:0 (10_state.md R27). -/
def htSequence (s : State) : BitVec 56 := s.htIn0 ++ s.htIn1

/-- humidity_raw = S[47:28] (40_decoder.md R82). -/
def humidityField (S : BitVec 56) : Count := S.extractLsb' 28 20

/-- temperature_raw = S[27:8] (40_decoder.md R83). -/
def temperatureField (S : BitVec 56) : Count := S.extractLsb' 8 20

/-! ## The raw counts (41_compensation.md R102) -/

/-- The 20-bit count of 3 raw bytes: bits 23:4. -/
def rawCount (bytes : BitVec 24) : Count := bytes.extractLsb' 4 20

/-- adc_T = ADCT_IN[23:4]. -/
def adcT (s : State) : Count := rawCount s.adctIn

/-- adc_P = ADCP_IN[23:4]. -/
def adcP (s : State) : Count := rawCount s.adcpIn

/-! ## The calibration coefficients (41_compensation.md R99, R100) -/

/-- Whether entry k is read as unsigned: dig_T1 and dig_P1 only (10_state.md R30). -/
def coefUnsigned (k : Fin 12) : Bool := k.val == 0 || k.val == 3

/-- The interpreted value of entry k's raw word (41_compensation.md R100). -/
def interpretCoef (k : Fin 12) (w : Half) : Int :=
  if coefUnsigned k then (w.toNat : Int) else s16 w

/-- coef(k). -/
def coef (k : Fin 12) (s : State) : Int := interpretCoef k s.cal[k]

/-- t_fine as stage 2 takes it: sext_32(TFINE) (41_compensation.md R110). -/
def tFineOperand (s : State) : Int := sext32 s.tfine

end Sys2Proof.Machine
end

