-- ==== Sys2Proof/Machine/Flags.lean ====
section
/-! DEFINITION. The STATUS register (10_state.md R20): its word, and the questions commands ask of its
fields. The flags' updates stand in Ops, with the events that write them (10_state.md R38). -/

namespace Sys2Proof.Machine

/-- The STATUS word: 31:28 zero, 27:16 CAL_V, 15 zero, 14 POUT_V, 13 TOUT_V, 12 HOUT_V, 11 ADCP_V, 10 ADCT_V,
9 HIN1_V, 8 HIN0_V, 7:4 ERRCODE, 3:1 zero, 0 ERR (10_state.md R20, R26). -/
def statusWord (s : State) : Word :=
  0#4 ++ s.calV ++ 0#1
    ++ BitVec.ofBool s.poutV ++ BitVec.ofBool s.toutV ++ BitVec.ofBool s.houtV
    ++ BitVec.ofBool s.adcpV ++ BitVec.ofBool s.adctV ++ BitVec.ofBool s.hin1V ++ BitVec.ofBool s.hin0V
    ++ s.errcode ++ 0#3 ++ BitVec.ofBool s.err

/-- CAL_V[2:0] = 0b111: the table is complete for stage 1 (41_compensation.md R98). -/
def stage1Loaded (s : State) : Bool := s.calV.extractLsb' 0 3 == 0b111#3

/-- CAL_V[11:3] = 0x1FF: the table is complete for stage 2 (41_compensation.md R98). -/
def stage2Loaded (s : State) : Bool := s.calV.extractLsb' 3 9 == 0x1FF#9

end Sys2Proof.Machine
end

