-- ==== Sys2Proof/Machine/Registers.lean ====
section
/-! DEFINITION. The register address space (10_state.md R18; 20_memory.md R41 to R51): which register an offset
names, its access code, and what a read of it returns. The CPD has no other memory (20_memory.md R42). What a
write does stands in Transfer, since a write to CMD runs a command. -/

namespace Sys2Proof.Machine

/-- The register at a byte offset (10_state.md R18). `none` for a misaligned offset (20_memory.md R45) and for an
unmapped one (R46): all 8 bits are decoded, so no register has a second offset. -/
def regAt (off : Offset) : Option Reg :=
  match off with
  | 0x00#8 => some .cmd
  | 0x04#8 => some .status
  | 0x08#8 => some .htIn0
  | 0x0C#8 => some .htIn1
  | 0x10#8 => some .adctIn
  | 0x14#8 => some .adcpIn
  | 0x18#8 => some (.cal 0)
  | 0x1C#8 => some (.cal 1)
  | 0x20#8 => some (.cal 2)
  | 0x24#8 => some (.cal 3)
  | 0x28#8 => some (.cal 4)
  | 0x2C#8 => some (.cal 5)
  | 0x30#8 => some (.cal 6)
  | 0x34#8 => some (.cal 7)
  | 0x38#8 => some (.cal 8)
  | 0x3C#8 => some (.cal 9)
  | 0x40#8 => some (.cal 10)
  | 0x44#8 => some (.cal 11)
  | 0x48#8 => some .humRaw
  | 0x4C#8 => some .htempRaw
  | 0x50#8 => some .ut
  | 0x54#8 => some .tfine
  | 0x58#8 => some .tout
  | 0x5C#8 => some .up
  | 0x60#8 => some .pout
  | _ => none

/-- The byte offset of a register (10_state.md R18). -/
def offsetOf : Reg → Offset
  | .cmd => 0x00#8
  | .status => 0x04#8
  | .htIn0 => 0x08#8
  | .htIn1 => 0x0C#8
  | .adctIn => 0x10#8
  | .adcpIn => 0x14#8
  | .cal k => 0x18#8 + 4#8 * BitVec.ofNat 8 k
  | .humRaw => 0x48#8
  | .htempRaw => 0x4C#8
  | .ut => 0x50#8
  | .tfine => 0x54#8
  | .tout => 0x58#8
  | .up => 0x5C#8
  | .pout => 0x60#8

/-- The access code of a register (10_state.md R18). -/
def accessOf : Reg → Access
  | .cmd => .writeOnly
  | .status => .readOnly
  | .htIn0 => .readWrite
  | .htIn1 => .readWrite
  | .adctIn => .readWrite
  | .adcpIn => .readWrite
  | .cal _ => .readWrite
  | .humRaw => .readOnly
  | .htempRaw => .readOnly
  | .ut => .readOnly
  | .tfine => .readOnly
  | .tout => .readOnly
  | .up => .readOnly
  | .pout => .readOnly

/-- What a read of a register returns (10_state.md R19, R20, R27 to R35). CMD keeps no value and reads 0 (R19);
CALk reads as `pat32(coef(k))` (R30); an absent output reads as the data it last held (R37). -/
def readReg (r : Reg) (s : State) : Word :=
  match r with
  | .cmd => 0#32
  | .status => statusWord s
  | .htIn0 => s.htIn0
  | .htIn1 => s.htIn1.setWidth 32
  | .adctIn => s.adctIn.setWidth 32
  | .adcpIn => s.adcpIn.setWidth 32
  | .cal k => pat32 (coef k s)
  | .humRaw => s.humRaw.setWidth 32
  | .htempRaw => s.htempRaw.setWidth 32
  | .ut => s.ut.setWidth 32
  | .tfine => s.tfine
  | .tout => s.tout
  | .up => s.up.setWidth 32
  | .pout => s.pout

/-- `MemRead(off, 4)`: the value of the register there, or 0 for a bad read (20_memory.md R47, R48). -/
def readOffset (off : Offset) (s : State) : Word :=
  match regAt off with
  | some r => readReg r s
  | none => 0#32

end Sys2Proof.Machine
end

