-- ==== Sys2Proof/Machine/Compensation.lean ====
section
/-! DEFINITION. The two-stage compensation pipeline (41_compensation.md). All arithmetic is exact integer
arithmetic (R7 of 00_scope.md, R119). UNVERIFIED, entry 9: the two formulas are marked by the spec itself as general
knowledge (93_implementation_defined.md G1, G2); the spec makes them normative (R104, R107). -/

namespace Sys2Proof.Machine

/-! ## Stage 1: temperature -/

/-- What stage 1 returns: the fine temperature, and the temperature in hundredths of a degree Celsius. -/
structure Stage1 where
  tFine : Int
  temp : Int
deriving DecidableEq, Repr

/-- var1 of stage 1 (41_compensation.md R104). -/
def stage1Var1 (adc t1 t2 : Int) : Int := asr ((asr adc 3 - shl t1 1) * t2) 11

/-- var2 of stage 1 (41_compensation.md R104). -/
def stage1Var2 (adc t1 t3 : Int) : Int :=
  let d := asr adc 4 - t1
  asr (asr (d * d) 12 * t3) 14

/-- `CompT(adc_T, T1, T2, T3)` (41_compensation.md R104). -/
def compT (adc t1 t2 t3 : Int) : Stage1 :=
  let tFine := stage1Var1 adc t1 t2 + stage1Var2 adc t1 t3
  { tFine := tFine, temp := asr (tFine * 5 + 128) 8 }

/-! ## Stage 2: pressure -/

/-- The coefficients P1 to P9 of stage 2, interpreted (41_compensation.md R100). -/
structure PressureCoefs where
  p1 : Int
  p2 : Int
  p3 : Int
  p4 : Int
  p5 : Int
  p6 : Int
  p7 : Int
  p8 : Int
  p9 : Int
deriving DecidableEq, Repr

/-- var2 of stage 2 after the P6, P5 and P4 terms (41_compensation.md R107). -/
def stage2Var2 (tFine : Int) (c : PressureCoefs) : Int :=
  let v := tFine - 128000
  v * v * c.p6 + shl (v * c.p5) 17 + shl c.p4 35

/-- var1 of stage 2 after the P3 and P2 terms, before it is scaled by P1 (41_compensation.md R107). -/
def stage2Var1 (tFine : Int) (c : PressureCoefs) : Int :=
  let v := tFine - 128000
  asr (v * v * c.p3) 8 + shl (v * c.p2) 12

/-- The divisor of stage 2, the final var1 of the part before the division (41_compensation.md R107, R108). -/
def stage2Divisor (tFine : Int) (c : PressureCoefs) : Int :=
  asr ((shl 1 47 + stage2Var1 tFine c) * c.p1) 33

/-- p after the division, for a divisor that is not zero (41_compensation.md R107, R111). -/
def stage2Quotient (adc tFine : Int) (c : PressureCoefs) : Int :=
  tdiv ((shl (1048576 - adc) 31 - stage2Var2 tFine c) * 3125) (stage2Divisor tFine c)

/-- The correction of p by the P9, P8 and P7 terms (41_compensation.md R107). -/
def stage2Correct (p : Int) (c : PressureCoefs) : Int :=
  asr (p + asr (c.p9 * asr p 13 * asr p 13) 25 + asr (c.p8 * p) 19) 8 + shl c.p7 4

/-- `CompP(adc_P, t_fine, P1, …, P9)`, not yet range-checked; `none` is DEGENERATE (41_compensation.md R107). -/
def compP (adc tFine : Int) (c : PressureCoefs) : Option Int :=
  if stage2Divisor tFine c = 0 then none
  else some (stage2Correct (stage2Quotient adc tFine c) c)

/-- The pressure a command stores, or the error it raises: DEGENERATE_CAL for a zero divisor
(41_compensation.md R108), P_RANGE for a result outside [0, 2^32 - 1] (R113). -/
def pressureResult (adc tFine : Int) (c : PressureCoefs) : Except ErrCode Word :=
  match compP adc tFine c with
  | none => .error .degenerateCal
  | some r => if r < 0 ∨ 2 ^ 32 - 1 < r then .error .pRange else .ok (pat32 r)

/-! ## The commands -/

/-- Stage 1 of the operands as they stand (41_compensation.md R105). -/
def stage1Of (s : State) : Stage1 := compT (adcT s).toNat (coef 0 s) (coef 1 s) (coef 2 s)

/-- P1 to P9 as coef(3) to coef(11) (41_compensation.md R100). -/
def pressureCoefs (s : State) : PressureCoefs where
  p1 := coef 3 s
  p2 := coef 4 s
  p3 := coef 5 s
  p4 := coef 6 s
  p5 := coef 7 s
  p6 := coef 8 s
  p7 := coef 9 s
  p8 := coef 10 s
  p9 := coef 11 s

/-- The commit of stage 1 with the results of `r`. -/
def commitTemperature (r : Stage1) (s : State) : State :=
  commitStage1 (adcT s) (pat32 r.tFine) (pat32 r.temp) s

/-- COMPT's checks and commit (41_compensation.md R105). -/
def comptBody (s : State) : Except ErrCode State :=
  if s.adctV = false then .error .inputMissing
  else if stage1Loaded s = false then .error .calMissing
  else .ok (commitTemperature (stage1Of s) s)

/-- COMPP's checks and commit (41_compensation.md R110). -/
def comppBody (s : State) : Except ErrCode State :=
  if s.adcpV = false then .error .inputMissing
  else if stage2Loaded s = false then .error .calMissing
  else if s.toutV = false then .error .tfineMissing
  else
    match pressureResult (adcP s).toNat (tFineOperand s) (pressureCoefs s) with
    | .error code => .error code
    | .ok p => .ok (commitStage2 (adcP s) p s)

/-- COMPTP's checks and commit (41_compensation.md R115): stage 2 takes t_fine from stage 1 directly. -/
def comptpBody (s : State) : Except ErrCode State :=
  if s.adctV = false then .error .inputMissing
  else if stage1Loaded s = false then .error .calMissing
  else if s.adcpV = false then .error .inputMissing
  else if stage2Loaded s = false then .error .calMissing
  else
    match pressureResult (adcP s).toNat (stage1Of s).tFine (pressureCoefs s) with
    | .error code => .error code
    | .ok p => .ok (commitStage2 (adcP s) p (commitTemperature (stage1Of s) s))

/-- The groups whose valid bits a failing COMPT clears (60_exceptions.md R146). -/
def comptGroups : OutGroups := { h := false, t := true, p := true }

/-- The group whose valid bit a failing COMPP clears (60_exceptions.md R146). -/
def comppGroups : OutGroups := { h := false, t := false, p := true }

/-- The groups whose valid bits a failing COMPTP clears (60_exceptions.md R146). -/
def comptpGroups : OutGroups := { h := false, t := true, p := true }

/-- COMPT (41_compensation.md R105). -/
def execCompt (s : State) : Result := .next (gated (committing comptGroups comptBody) s)

/-- COMPP (41_compensation.md R110). -/
def execCompp (s : State) : Result := .next (gated (committing comppGroups comppBody) s)

/-- COMPTP (41_compensation.md R115). -/
def execComptp (s : State) : Result := .next (gated (committing comptpGroups comptpBody) s)

end Sys2Proof.Machine
end

