-- ==== Sys2Proof/Machine/Control.lean ====
section
/-! DEFINITION. The control commands (42_control.md). -/

namespace Sys2Proof.Machine

/-- NOP (42_control.md R131): nothing, whatever the value of ERR. -/
def execNop (s : State) : Result := .next s

/-- CLRCAL (42_control.md R132), ignored while ERR = 1. -/
def execClrcal (s : State) : Result := .next (gated clearCalibration s)

/-- CLRERR (42_control.md R133), whatever the value of ERR. -/
def execClrerr (s : State) : Result := .next (clearError s)

/-- SRST (42_control.md R134), whatever the value of ERR. -/
def execSrst (s : State) : Result := .next (resetRegisters s)

end Sys2Proof.Machine
end

