-- ==== Sys2Proof/Machine/Humidity.lean ====
section
/-! DEFINITION. The humidity/temperature bit-field decoder (40_decoder.md). -/

namespace Sys2Proof.Machine

/-- DECHT's checks and commit (40_decoder.md R84). Bytes b0 and b6 are not read (R85, R86). -/
def dechtBody (s : State) : Except ErrCode State :=
  if s.hin0V = false ∨ s.hin1V = false then .error .inputMissing
  else .ok (commitHumidity (humidityField (htSequence s)) (temperatureField (htSequence s)) s)

/-- The group DECHT writes (60_exceptions.md R146). -/
def dechtGroups : OutGroups := { h := true, t := false, p := false }

/-- DECHT (40_decoder.md R84). -/
def execDecht (s : State) : Result := .next (gated (committing dechtGroups dechtBody) s)

end Sys2Proof.Machine
end

