-- ==== Sys2Proof/Machine/Transfer.lean ====
section
/-! DEFINITION. The host transactions (20_memory.md R41 to R51): RD, and WR, whose form at offset 0x00 runs a
command (10_state.md R19). -/

namespace Sys2Proof.Machine

/-- A decoded command goes to its rule (30_encoding.md R62). -/
def runCommand (c : Command) (s : State) : Result :=
  match c with
  | .nop => execNop s
  | .decht => execDecht s
  | .compt => execCompt s
  | .compp => execCompp s
  | .comptp => execComptp s
  | .clrcal => execClrcal s
  | .clrerr => execClrerr s
  | .srst => execSrst s

/-- A write of `w` to CMD (10_state.md R19): the whole word is decoded before any effect (30_encoding.md R62). -/
def writeCommand (w : Word) (s : State) : Result :=
  match decodeCommand w with
  | .ok c => runCommand c s
  | .error _ => .next (illegalCommand s)

/-- A write of a register: a command, an accepted write of an input register (20_memory.md R49 to R51), or a bad
access for a read-only one (R47). -/
def writeReg (r : Reg) (v : Word) (s : State) : Result :=
  match r with
  | .cmd => writeCommand v s
  | .htIn0 => .next (writeHtIn0 v s)
  | .htIn1 => .next (writeHtIn1 v s)
  | .adctIn => .next (writeAdctIn v s)
  | .adcpIn => .next (writeAdcpIn v s)
  | .cal k => .next (writeCal k v s)
  | .status => .next (badWrite s)
  | .humRaw => .next (badWrite s)
  | .htempRaw => .next (badWrite s)
  | .ut => .next (badWrite s)
  | .tfine => .next (badWrite s)
  | .tout => .next (badWrite s)
  | .up => .next (badWrite s)
  | .pout => .next (badWrite s)

/-- WR, `MemWrite(off, 4, v)` (20_memory.md R47): a misaligned or unmapped offset is a bad access. -/
def execWr (off : Offset) (v : Word) (s : State) : Result :=
  match regAt off with
  | some r => writeReg r v s
  | none => .next (badWrite s)

/-- RD, `MemRead(off, 4)` (20_memory.md R47, R48): the value goes to the host, and nothing else changes. -/
def execRd (off : Offset) (s : State) : Result := .next (answer (readOffset off s) s)

end Sys2Proof.Machine
end

