-- ==== Sys2Proof/Machine/Dispatch.lean ====
section
/-! DEFINITION. The meaning of each instruction, one arm per row of the opcode table. -/

namespace Sys2Proof.Machine

def exec (i : Instr) (s : State) : Host.Outcome State Fault Refusal :=
  match i with
  | .nop => Sys2Proof.Machine.execNop s
  | .decht => Sys2Proof.Machine.execDecht s
  | .compt => Sys2Proof.Machine.execCompt s
  | .compp => Sys2Proof.Machine.execCompp s
  | .comptp => Sys2Proof.Machine.execComptp s
  | .clrcal => Sys2Proof.Machine.execClrcal s
  | .clrerr => Sys2Proof.Machine.execClrerr s
  | .srst => Sys2Proof.Machine.execSrst s
  | .wr off data => Sys2Proof.Machine.execWr off data s
  | .rd off => Sys2Proof.Machine.execRd off s

end Sys2Proof.Machine
end

