-- ==== Sys2Proof/Machine/Step.lean ====
section
/-! DEFINITION. One step of the machine: the first event that stands at the port is performed whole
(20_memory.md R43). -/

namespace Sys2Proof.Machine

/-- A transaction is performed: its decoded instruction runs. The only request the decoder refuses is an illegal
command word, which raises ILLEGAL_CMD (30_encoding.md R62, R67). -/
def perform (r : Request) (s : State) : Host.Outcome State Fault Refusal :=
  match decode r with
  | .ok i => exec i s
  | .error _ => .next (illegalCommand s)

/-- One step. With nothing at the port the CPD waits unchanged (70_reset_and_hazards.md R168; 60_exceptions.md R162).
`rst` resets it (70_reset_and_hazards.md R166). A second agent is refused (20_memory.md R59). -/
def step (s : State) : Host.Outcome State Fault Refusal :=
  match s.pending with
  | [] => .next s
  | .reset :: rest => .next (resetRegisters (beginEvent rest s))
  | .transaction .host r :: rest => perform r (beginEvent rest s)
  | .transaction .other _ :: _ => .refused .secondHost

/-- `s` with the instruction of a table word as the next thing the host has put on the port; what stood there
follows it. -/
def State.withFetchWord (s : State) (nbits w : Nat) : State :=
  { s with pending := .transaction .host (requestOfTableWord nbits w) :: s.pending }

end Sys2Proof.Machine
end

