-- ==== Sys2Proof/Machine/Datapath.lean ====
section
/-! DEFINITION. A fixed-width datapath for the two stages, at the widths 41_compensation.md R118 gives as sufficient:
36 bits for stage 1 and 132 bits for stage 2. Its operations wrap; R118 says it computes every result exactly on the
domain. The machine does not use it: its arithmetic is the exact one of R104 and R107 (entry 19). -/

namespace Sys2Proof.Machine

/-- Stage 1 in 36-bit two's complement arithmetic: (t_fine, T). -/
def compT36 (adc : Count) (t1 t2 t3 : Half) : BitVec 36 × BitVec 36 :=
  let a : BitVec 36 := adc.setWidth 36
  let u1 : BitVec 36 := t1.setWidth 36
  let u2 : BitVec 36 := t2.signExtend 36
  let u3 : BitVec 36 := t3.signExtend 36
  let var1 := ((a.sshiftRight 3 - u1 <<< 1) * u2).sshiftRight 11
  let d := a.sshiftRight 4 - u1
  let var2 := ((d * d).sshiftRight 12 * u3).sshiftRight 14
  let tFine := var1 + var2
  (tFine, (tFine * 5#36 + 128#36).sshiftRight 8)

/-- The coefficients of stage 2 as 132-bit values, zero-extended for P1 and sign-extended for the others. -/
def widenCoef (k : Fin 12) (w : Half) : BitVec 132 :=
  if coefUnsigned k then w.setWidth 132 else w.signExtend 132

/-- Stage 2 in 132-bit two's complement arithmetic, from a sign-extended t_fine and the raw table; `none` is the zero
divisor. -/
def compP132 (adc : Count) (tFine : Word) (cal : Vector Half 12) : Option (BitVec 132) :=
  let c (k : Fin 12) : BitVec 132 := widenCoef k cal[k]
  let v : BitVec 132 := tFine.signExtend 132 - 128000#132
  let var2 := v * v * c 8 + (v * c 7) <<< 17 + c 6 <<< 35
  let var1 := (v * v * c 5).sshiftRight 8 + (v * c 4) <<< 12
  let d := ((1#132 <<< 47 + var1) * c 3).sshiftRight 33
  if d = 0#132 then none
  else
    let p := (((1048576#132 - adc.setWidth 132) <<< 31 - var2) * 3125#132).sdiv d
    let w1 := (c 11 * p.sshiftRight 13 * p.sshiftRight 13).sshiftRight 25
    let w2 := (c 10 * p).sshiftRight 19
    some ((p + w1 + w2).sshiftRight 8 + c 9 <<< 4)

end Sys2Proof.Machine
end

