-- ==== Sys2Proof/Machine/Assembler.lean ====
section
/-! DEFINITION. The assembler's statements and pseudo-instructions as the host transactions they expand to
(30_encoding.md R69, R70). -/

namespace Sys2Proof.Machine

/-- The offset a statement names (30_encoding.md R69). -/
def offsetOfPlace : Place → Offset
  | .named r => offsetOf r
  | .raw off => off

/-- The 32-bit pattern of an immediate; a negative one is written as its two's complement pattern
(30_encoding.md R69). -/
def immediateWord (imm : Int) : Word := pat32 imm

/-- The raw calibration word of two sensor bytes: the byte of the lower sensor register is the less significant
(41_compensation.md R97). -/
def calWord (low high : Byte) : Half := high ++ low

/-- `LDCAL`: CAL0 to CAL11 in that order (30_encoding.md R70). -/
def expandLdcal (w : Vector Half 12) : List Instr :=
  (List.finRange 12).map fun k => .wr (offsetOf (.cal k)) (w[k].setWidth 32)

/-- The 12 words of the 24 bytes of sensor registers 0x88 to 0x9F (30_encoding.md R70; 41_compensation.md R97). -/
def calWords (bytes : Vector Byte 24) : Vector Half 12 :=
  Vector.ofFn fun k : Fin 12 =>
    calWord (bytes[2 * k.val]'(by have := k.isLt; omega)) (bytes[2 * k.val + 1]'(by have := k.isLt; omega))

/-- The host transactions a statement stands for (30_encoding.md R69, R70); `{…}` is byte concatenation, the first
byte most significant. -/
def expand : Stmt → List Instr
  | .wr p imm => [.wr (offsetOfPlace p) (immediateWord imm)]
  | .rd p => [.rd (offsetOfPlace p)]
  | .cmd c => [.wr (offsetOf .cmd) (encodeCommand c)]
  | .ldht b0 b1 b2 b3 b4 b5 b6 =>
    [.wr (offsetOf .htIn0) (b0 ++ b1 ++ b2 ++ b3), .wr (offsetOf .htIn1) (0x00#8 ++ b4 ++ b5 ++ b6)]
  | .ldadct x0 x1 x2 => [.wr (offsetOf .adctIn) (0x00#8 ++ x0 ++ x1 ++ x2)]
  | .ldadcp x0 x1 x2 => [.wr (offsetOf .adcpIn) (0x00#8 ++ x0 ++ x1 ++ x2)]
  | .ldcal w => expandLdcal w
  | .ldcalb c => expandLdcal (calWords c)

/-- The host transactions of a program, in order. -/
def expandProgram (p : List Stmt) : List Instr := p.flatMap expand

/-- `s` with the host's transactions `is` standing at the port after what already stands there (entry 1). -/
def issue (is : List Instr) (s : State) : State :=
  { s with pending := s.pending ++ is.map fun i => .transaction .host (encode i) }

end Sys2Proof.Machine
end

