-- ==== Sys2Proof/Machine/Driver.lean ====
section
/-! DEFINITION. The host duties of 70_reset_and_hazards.md that feed the CPD and read it: the sensor protocol's bus
sequences, the calibration wait, and the readings a host returns (Invocation.lean puts them together). The sensors and
the bus are outside the CPD (00_scope.md R5); these are pure functions beside the machine, and no step of the CPD reads
them (entry 18). -/

namespace Sys2Proof.Machine

/-! ## The sensor protocol (70_reset_and_hazards.md R170) -/

/-- One operation of the host on the sensor bus, or one of its waits (70_reset_and_hazards.md R186). -/
inductive BusOp where
  /-- A single byte with no payload. -/
  | send (device : BitVec 7) (byte : Byte)
  /-- A write of a payload to a sensor register. -/
  | write (device : BitVec 7) (register : Byte) (payload : List Byte)
  /-- A read of `n` bytes from a sensor register onward. -/
  | read (device : BitVec 7) (register : Byte) (n : Nat)
  /-- A wait of at least `ms` milliseconds. -/
  | waitAtLeast (ms : Nat)
  /-- A wait of `ms` milliseconds. -/
  | waitFixed (ms : Nat)
deriving DecidableEq, Repr

/-- The humidity/temperature sensor's 7-bit address. -/
def humiditySensor : BitVec 7 := 0x38#7

/-- The pressure/temperature sensor's 7-bit address. -/
def pressureSensor : BitVec 7 := 0x77#7

/-- The status byte that means ready to measure: the whole byte is compared (70_reset_and_hazards.md R173). -/
def readyStatus : Byte := 0x18#8

/-- The humidity sensor's Reset step (70_reset_and_hazards.md R171). -/
def humidityReset : List BusOp := [.send humiditySensor 0xBA#8, .waitAtLeast 40]

/-- The read of the status register (70_reset_and_hazards.md R172). -/
def statusRead : BusOp := .read humiditySensor 0x71#8 1

/-- The init write of the calibration wait (70_reset_and_hazards.md R173). -/
def initWrite : BusOp := .write humiditySensor 0xBE#8 [0x08#8, 0x00#8]

/-- The measurement after calibration is confirmed (70_reset_and_hazards.md R175). -/
def humidityMeasure : List BusOp :=
  [.waitFixed 50, .write humiditySensor 0xAC#8 [0x33#8, 0x00#8], .waitFixed 80, .read humiditySensor 0x00#8 7]

/-- The pressure sensor's Reset step (70_reset_and_hazards.md R176); what the sensor does with it is not claimed. -/
def pressureReset : List BusOp := [.write pressureSensor 0xF4#8 [0xB6#8], .waitFixed 50]

/-- The ReadCalibration step: word k from sensor register 0x88 + 2k (70_reset_and_hazards.md R177). -/
def calibrationReads : List BusOp :=
  (List.finRange 12).map fun k => .read pressureSensor (0x88#8 + 2#8 * BitVec.ofNat 8 k) 2

/-- The ReadRawTemperature step (70_reset_and_hazards.md R178). -/
def rawTemperatureRead : BusOp := .read pressureSensor 0xFA#8 3

/-- The ReadRawPressure step (70_reset_and_hazards.md R178). -/
def rawPressureRead : BusOp := .read pressureSensor 0xF7#8 3

/-! ## The calibration wait (70_reset_and_hazards.md R173, R174, R182) -/

/-- What the bus answers in one round of the wait. -/
inductive Poll where
  /-- The status byte was read, and an init write that follows succeeds. -/
  | status (b : Byte)
  /-- The status byte was read, and an init write that follows fails. -/
  | initFails (b : Byte)
  /-- The status read failed. -/
  | readFails
deriving DecidableEq, Repr

/-- How the wait ends. `waiting` is a wait that has not ended: with the unbounded loop, a sensor that never reports
ready is a hang (70_reset_and_hazards.md R174). -/
inductive WaitEnd where
  | ready
  | timeout
  | transportError
  | waiting
deriving DecidableEq, Repr

/-- The bus operations of a wait, and how it ends. -/
structure WaitTrace where
  ops : List BusOp
  outcome : WaitEnd
deriving DecidableEq, Repr

/-- The calibration wait on the rounds the bus answers. The bound counts init writes: DESIGN CHOICE, entry 15.
A bus failure aborts at once (70_reset_and_hazards.md R185). -/
def awaitCalibration : Option Nat → List Poll → WaitTrace
  | _, [] => { ops := [], outcome := .waiting }
  | _, .readFails :: _ => { ops := [statusRead], outcome := .transportError }
  | limit, .initFails b :: _ =>
    if b = readyStatus then { ops := [statusRead], outcome := .ready }
    else if limit = some 0 then { ops := [statusRead], outcome := .timeout }
    else { ops := [statusRead, initWrite], outcome := .transportError }
  | limit, .status b :: rest =>
    if b = readyStatus then { ops := [statusRead], outcome := .ready }
    else if limit = some 0 then { ops := [statusRead], outcome := .timeout }
    else
      let t := awaitCalibration (limit.map (· - 1)) rest
      { ops := statusRead :: initWrite :: .waitAtLeast 50 :: t.ops, outcome := t.outcome }

/-- A hang: however many rounds the bus answers, the wait has not ended (70_reset_and_hazards.md R174;
93_implementation_defined.md I3). -/
def CalibrationHangs (limit : Option Nat) (polls : Nat → Poll) : Prop :=
  ∀ n, (awaitCalibration limit ((List.range n).map polls)).outcome = .waiting

/-! ## What the host asks of the CPD (70_reset_and_hazards.md R175, R177 to R180) -/

/-- The load and decode of a humidity measurement's 7 bytes, in the order read (70_reset_and_hazards.md R175). -/
def humidityProgram (b : Vector Byte 7) : List Stmt :=
  [.ldht b[0] b[1] b[2] b[3] b[4] b[5] b[6], .cmd .decht]

/-- The registers the humidity driver's result is made of (70_reset_and_hazards.md R180). -/
def humidityReads : List Stmt := [.rd (.named .status), .rd (.named .humRaw), .rd (.named .htempRaw)]

/-- The two ways to compensate (70_reset_and_hazards.md R179): COMPTP, or COMPT then COMPP. -/
inductive CompensateBy where
  | oneCommand
  | twoCommands
deriving DecidableEq, Repr

/-- The commands that compensate (70_reset_and_hazards.md R179). -/
def compensateProgram : CompensateBy → List Stmt
  | .oneCommand => [.cmd .comptp]
  | .twoCommands => [.cmd .compt, .cmd .compp]

/-- What the host reads after the compensation (70_reset_and_hazards.md R179). -/
def pressureReads : List Stmt := [.rd (.named .status), .rd (.named .tout), .rd (.named .pout)]

/-! ## The readings (exact rationals; the host rounds them, 92_eei_decisions.md D26) -/

/-- Relative humidity in percent (40_decoder.md R87). -/
def relativeHumidity (h : Count) : ℚ := (h.toNat : ℚ) * 100 / 2 ^ 20

/-- The humidity sensor's temperature in degrees Celsius (40_decoder.md R88). -/
def humidityCelsius (t : Count) : ℚ := (t.toNat : ℚ) * 200 / 2 ^ 20 - 50

/-- The compensated temperature in degrees Celsius (41_compensation.md R106). -/
def celsius (t : Word) : ℚ := (sext32 t : ℚ) / 100

/-- The compensated pressure in Pa (41_compensation.md R112). -/
def pascals (p : Word) : ℚ := (p.toNat : ℚ) / 256

/-- What the humidity driver returns: (temperature, humidity), or absent (70_reset_and_hazards.md R180). -/
def humidityReading (s : State) : Option (ℚ × ℚ) :=
  if s.houtV then some (humidityCelsius s.htempRaw, relativeHumidity s.humRaw) else none

/-- What the pressure driver returns: (temperature, pressure), or absent, never one without the other
(70_reset_and_hazards.md R180). -/
def pressureReading (s : State) : Option (ℚ × ℚ) :=
  if s.toutV && s.poutV then some (celsius s.tout, pascals s.pout) else none

/-- The four readings of one cycle, named by the sensor they come from. -/
structure Readings where
  humiditySensorCelsius : ℚ
  humidity : ℚ
  pressureSensorCelsius : ℚ
  pressure : ℚ

/-- The readings the host passes on: only when all four are present (70_reset_and_hazards.md R181). -/
def completeReadings (h p : Option (ℚ × ℚ)) : Option Readings :=
  match h, p with
  | some (th, rh), some (tp, pa) =>
    some { humiditySensorCelsius := th, humidity := rh, pressureSensorCelsius := tp, pressure := pa }
  | _, _ => none

end Sys2Proof.Machine
end

