-- ==== Sys2Proof/Machine/Invocation.lean ====
section
/-! DEFINITION. One invocation of each driver: its acts on the sensor bus and on the CPD in order, where a bus failure
cuts it off (70_reset_and_hazards.md R185), and what it returns (R174, R180). Like Driver.lean this is the host's side:
no step of the CPD reads it (entry 18). -/

namespace Sys2Proof.Machine

/-! ## Acts, and the failure that ends them -/

/-- One act of the host: on the sensor bus, or a statement issued to the CPD. -/
inductive HostAct where
  | bus (op : BusOp)
  | cpd (stmt : Stmt)
deriving DecidableEq, Repr

/-- Whether an act is a sensor bus transaction, which can fail; a wait and a CPD transaction cannot
(70_reset_and_hazards.md R185). -/
def HostAct.canFail : HostAct → Bool
  | .bus (.send _ _) => true
  | .bus (.write _ _ _) => true
  | .bus (.read _ _ _) => true
  | .bus (.waitAtLeast _) => false
  | .bus (.waitFixed _) => false
  | .cpd _ => false

/-- How an invocation's acts end: all done, the calibration wait's bound reached, a bus failure, or not at all. -/
inductive InvocationEnd where
  | completed
  | calibrationTimeout
  | transportError
  | notEnded
deriving DecidableEq, Repr

/-- What the host did, and how it ended. -/
structure HostTrace where
  acts : List HostAct
  outcome : InvocationEnd
deriving DecidableEq, Repr

/-- `a`, and then what `t` did. -/
def HostTrace.after (a : HostAct) (t : HostTrace) : HostTrace := { acts := a :: t.acts, outcome := t.outcome }

/-- The acts of a script. `fails` is the number of bus transactions that succeed before one fails, `none` when none
fails. The failing transaction is the last act (70_reset_and_hazards.md R185). -/
def runScript : Option Nat → List HostAct → HostTrace
  | _, [] => { acts := [], outcome := .completed }
  | fails, a :: rest =>
    if a.canFail then
      if fails = some 0 then { acts := [a], outcome := .transportError }
      else (runScript (fails.map (· - 1)) rest).after a
    else (runScript fails rest).after a

/-- The calibration wait as a part of an invocation. -/
def traceOfWait (w : WaitTrace) : HostTrace where
  acts := w.ops.map .bus
  outcome :=
    match w.outcome with
    | .ready => .completed
    | .timeout => .calibrationTimeout
    | .transportError => .transportError
    | .waiting => .notEnded

/-- `t`, and `u` after it only when `t` completed (70_reset_and_hazards.md R185). -/
def HostTrace.andThen (t u : HostTrace) : HostTrace :=
  match t.outcome with
  | .completed => { acts := t.acts ++ u.acts, outcome := u.outcome }
  | .calibrationTimeout => t
  | .transportError => t
  | .notEnded => t

/-- The CPD statements among the acts, in order. -/
def HostTrace.stmts (t : HostTrace) : List Stmt :=
  t.acts.filterMap fun a =>
    match a with
    | .bus _ => none
    | .cpd stmt => some stmt

/-- The transactions at the CPD's port, in order. -/
def HostTrace.issued (t : HostTrace) : List Instr := expandProgram t.stmts

/-! ## The humidity driver (70_reset_and_hazards.md R171 to R175) -/

/-- What the sensor bus answers in a humidity invocation: failures as in `runScript`, the rounds of the wait, and the
7 bytes. -/
structure HumidityBus where
  resetFails : Option Nat
  polls : List Poll
  measureFails : Option Nat
  bytes : Vector Byte 7
deriving DecidableEq, Repr

/-- One invocation of the humidity driver, with the wait's bound. -/
def humidityInvocation (limit : Option Nat) (b : HumidityBus) : HostTrace :=
  ((runScript b.resetFails (humidityReset.map .bus)).andThen (traceOfWait (awaitCalibration limit b.polls))).andThen
    (runScript b.measureFails
      (humidityMeasure.map .bus ++ (humidityProgram b.bytes ++ humidityReads).map .cpd))

/-- With the host's own bound (70_reset_and_hazards.md R174). -/
def hostHumidityInvocation (b : HumidityBus) : HostTrace := humidityInvocation Config.hostCalPollLimit b

/-! ## The pressure driver (70_reset_and_hazards.md R169, R176 to R179) -/

/-- What the sensor bus answers in a pressure invocation: the failure as in `runScript`, the 24 calibration bytes, and
the two raw counts' bytes. -/
structure PressureBus where
  fails : Option Nat
  calibration : Vector Byte 24
  temperature : Vector Byte 3
  pressure : Vector Byte 3
deriving DecidableEq, Repr

/-- The ReadCalibration step and the load of the table (70_reset_and_hazards.md R177). That the table is loaded whole
after the twelfth read, and not each CALk right after its own word is read, is a DESIGN CHOICE, entry 22: R177 fixes
neither order, and it shows only when a bus read fails part-way. -/
def calibrationScript (b : PressureBus) : List HostAct :=
  calibrationReads.map .bus ++ [.cpd (.ldcalb b.calibration)]

/-- The raw reads, each loaded in the order read, the compensation, and the reads of its results
(70_reset_and_hazards.md R178, R179). -/
def measurementScript (how : CompensateBy) (b : PressureBus) : List HostAct :=
  [.bus rawTemperatureRead, .cpd (.ldadct b.temperature[0] b.temperature[1] b.temperature[2]),
   .bus rawPressureRead, .cpd (.ldadcp b.pressure[0] b.pressure[1] b.pressure[2])]
    ++ (compensateProgram how ++ pressureReads).map .cpd

/-- The acts of the pressure driver. A host that keeps the table (`reload` false) leaves the calibration step out
(41_compensation.md R98). -/
def pressureScript (reload : Bool) (how : CompensateBy) (b : PressureBus) : List HostAct :=
  pressureReset.map .bus ++ (if reload then calibrationScript b else []) ++ measurementScript how b

/-- One invocation of the pressure driver. -/
def pressureInvocation (reload : Bool) (how : CompensateBy) (b : PressureBus) : HostTrace :=
  runScript b.fails (pressureScript reload how b)

/-- Whether the host reads the table again: always when it does not cache it; when it does, only if the CPD does not
hold the table of an earlier invocation any more, or not yet (`held` false): it keeps it until it is overwritten, CLRCAL,
SRST or reset (92_eei_decisions.md D31). -/
def hostReloads (held : Bool) : Bool := !(Config.hostCachesCal && held)

/-- With the host's own choice of caching (00_scope.md R8). -/
def hostPressureInvocation (held : Bool) (how : CompensateBy) (b : PressureBus) : HostTrace :=
  pressureInvocation (hostReloads held) how b

/-- The transactions of a list performed one after the other (20_memory.md R43). -/
def transact : List Instr → State → Result
  | [], s => .next s
  | i :: rest, s =>
    match exec i s with
    | .next t => transact rest t
    | .fault f => .fault f
    | .refused r => .refused r

/-! ## What a driver returns -/

/-- The errors that arise in the host (60_exceptions.md R156 (a) and (c)). -/
inductive HostError where
  | transportError
  | calibrationTimeout
deriving DecidableEq, Repr

/-- What becomes of an invocation: it returns the CPD's reading, present or absent; it returns (absent, absent) with an
error of the host's; or it has not returned. With the unbounded wait and a sensor that is never ready it never returns,
which is a hang and no absent reading (70_reset_and_hazards.md R174). -/
inductive DriverReturn where
  | reading (r : Option (ℚ × ℚ))
  | failed (e : HostError)
  | notReturned
deriving DecidableEq, Repr

/-- The return of an invocation that ended so, where `reading` is what the CPD's outputs give: after an abort no CPD
output is used (70_reset_and_hazards.md R174, R180, R185). -/
def driverReturn (e : InvocationEnd) (reading : Option (ℚ × ℚ)) : DriverReturn :=
  match e with
  | .completed => .reading reading
  | .calibrationTimeout => .failed .calibrationTimeout
  | .transportError => .failed .transportError
  | .notEnded => .notReturned

/-- The two fields a driver returns, (absent, absent) being `some none`; `none` when it has not returned. -/
def DriverReturn.fields : DriverReturn → Option (Option (ℚ × ℚ))
  | .reading r => some r
  | .failed _ => some none
  | .notReturned => none

/-- The readings a cycle passes on, once both drivers have returned (70_reset_and_hazards.md R181). -/
def cycleReadings (h p : DriverReturn) : Option (Option Readings) :=
  match h.fields, p.fields with
  | some rh, some rp => some (completeReadings rh rp)
  | _, _ => none

end Sys2Proof.Machine
end

