-- ==== Sys2Proof/Safety.lean ====
section
/-! DEFINITION. What counts as a good state of the CPD and a well-driven port, in the terms the statements use. -/

namespace Sys2Proof.Machine

/-- The invariants (I-a) to (I-h) of 10_state.md R39, which hold in every reachable state. -/
structure Invariant (s : State) : Prop where
  /-- (I-a) A present pressure has a present temperature. -/
  pressure_with_temperature : s.poutV = true → s.toutV = true
  /-- (I-b) A present temperature has its inputs. -/
  temperature_inputs : s.toutV = true → s.adctV = true ∧ stage1Loaded s = true
  /-- (I-c) A present pressure has its inputs. -/
  pressure_inputs : s.poutV = true → s.adcpV = true ∧ stage2Loaded s = true
  /-- (I-d) A present humidity result has its inputs. -/
  humidity_inputs : s.houtV = true → s.hin0V = true ∧ s.hin1V = true
  /-- (I-e) No error means code 0. -/
  no_error_no_code : s.err = false → s.errcode = 0#4
  /-- (I-e) An error means a code in 1..7. -/
  error_code_legal : s.err = true → 1 ≤ s.errcode.toNat ∧ s.errcode.toNat ≤ 7
  /-- (I-f) A present temperature is stage 1 of the current inputs. -/
  temperature_current : s.toutV = true →
    s.ut = adcT s ∧ s.tfine = pat32 (stage1Of s).tFine ∧ s.tout = pat32 (stage1Of s).temp
  /-- (I-g) A present pressure is stage 2 of the current inputs and TFINE. -/
  pressure_current : s.poutV = true →
    s.up = adcP s ∧ compP (adcP s).toNat (tFineOperand s) (pressureCoefs s) = some (s.pout.toNat : Int)
  /-- (I-h) A present humidity result is the decode of the current inputs. -/
  humidity_current : s.houtV = true →
    s.humRaw = humidityField (htSequence s) ∧ s.htempRaw = temperatureField (htSequence s)

/-- Only the one host of 20_memory.md R59 stands at the port. -/
def SingleHost (s : State) : Prop := ∀ r, PortEvent.transaction .other r ∉ s.pending

/-- The command an instruction runs: itself, or what a write to CMD decodes to (10_state.md R19). -/
def commandOf : Instr → Option Command
  | .nop => some .nop
  | .decht => some .decht
  | .compt => some .compt
  | .compp => some .compp
  | .comptp => some .comptp
  | .clrcal => some .clrcal
  | .clrerr => some .clrerr
  | .srst => some .srst
  | .wr off w => if off = 0x00#8 then (decodeCommand w).toOption else none
  | .rd _ => none

/-- The output groups of an operation that fails (60_exceptions.md R146): none for an illegal word and a bad
access, and for the commands that cannot fail. -/
def groupsOf (i : Instr) : OutGroups :=
  match commandOf i with
  | some .decht => { h := true, t := false, p := false }
  | some .compt => { h := false, t := true, p := true }
  | some .compp => { h := false, t := false, p := true }
  | some .comptp => { h := false, t := true, p := true }
  | some .nop => noGroups
  | some .clrcal => noGroups
  | some .clrerr => noGroups
  | some .srst => noGroups
  | none => noGroups

/-- The offsets a write of which is a bad access (20_memory.md R47): misaligned, unmapped (0x64 and above), or of a
read-only register. -/
def BadWriteOffset (off : Offset) : Prop :=
  off.toNat % 4 ≠ 0 ∨ 0x64 ≤ off.toNat ∨ off.toNat ∈ [0x04, 0x48, 0x4C, 0x50, 0x54, 0x58, 0x5C, 0x60]

/-- The offsets a read of which is a bad access (20_memory.md R47): misaligned, unmapped, or CMD. -/
def BadReadOffset (off : Offset) : Prop := off.toNat % 4 ≠ 0 ∨ 0x64 ≤ off.toNat ∨ off.toNat = 0x00

/-- The offsets of the input registers HT_IN0 to CAL11 (10_state.md R18). -/
def InputOffset (off : Offset) : Prop := off.toNat % 4 = 0 ∧ 0x08 ≤ off.toNat ∧ off.toNat ≤ 0x44

/-- The bits a write of an input register stores (20_memory.md R49). -/
def storedMask (off : Offset) : Word :=
  if off.toNat = 0x08 then 0xFFFFFFFF#32 else if off.toNat < 0x18 then 0x00FFFFFF#32 else 0x0000FFFF#32

/-- The offset of CALk (10_state.md R18). -/
def calOffset (k : Fin 12) : Offset := BitVec.ofNat 8 (0x18 + 4 * k.val)

/-- The state a recorded error leaves when none was recorded before: code `c`, and the valid bits of `g` cleared
(60_exceptions.md R146). -/
def failed (c : BitVec 4) (g : OutGroups) (s : State) : State :=
  { s with err := true, errcode := c, houtV := s.houtV && !g.h, toutV := s.toutV && !g.t, poutV := s.poutV && !g.p }

end Sys2Proof.Machine
end

