-- ==== Sys2Proof/Certificates/Slice0/Obligations.lean ====
section
/-! DEFINITION. The statements for the provers. They state the rules of spec/ in its own terms; where a rule rests
on the model's choice, or the spec marks a sentence as its own derivation, the docstring says so. -/

open Sys2Proof Sys2Proof.Machine

/-! ## Encoding -/

/-- The exact command words of 30_encoding.md R63, and one WR and one RD in the notation of R68
(`1_10_007EED00` and `0_60_00000000`). -/
def Obligations.DecodesTheSpecsWords : Prop :=
  decodeTableWord 32 0x00000000 = some .nop ∧ decodeTableWord 32 0x00000001 = some .decht ∧
  decodeTableWord 32 0x00000002 = some .compt ∧ decodeTableWord 32 0x00000003 = some .compp ∧
  decodeTableWord 32 0x00000004 = some .comptp ∧ decodeTableWord 32 0x00000005 = some .clrcal ∧
  decodeTableWord 32 0x00000006 = some .clrerr ∧ decodeTableWord 32 0x0000000F = some .srst ∧
  decodeTableWord 48 0x110007EED00 = some (.wr 0x10#8 0x007EED00#32) ∧
  decodeTableWord 48 0x06000000000 = some (.rd 0x60#8)

/-- Decode and encode agree, with every operand at every value (30_encoding.md R61, R63, R68). -/
def Obligations.DecodeInvertsEncode : Prop :=
  ∀ i : Instr, i.wellFormed = true →
    decode (encode i) = .ok i ∧ decodeTableWord (encodedBits i) (encodedWord i) = some i

/-- Each word has one meaning: a word the decoder accepts is the encoding of what it gives
(30_encoding.md R62, R63, R68). -/
def Obligations.EncodeInvertsDecode : Prop :=
  (∀ (w : Word) (c : Command), decodeCommand w = .ok c → encodeCommand c = w) ∧
  (∀ (tw : TransferWord) (i : Instr), decodeTransferWord tw = .ok i →
    encodedBits i = 48 ∧ encodedWord i = tw.toNat)

/-- 30_encoding.md R67: which words are illegal, and all that a write of one does. -/
def Obligations.IllegalWordsOnlyRaise : Prop :=
  ∀ w : Word,
    ((∃ e, decodeCommand w = .error e) ↔ (w.extractLsb' 4 28 ≠ 0#28 ∨ (7 ≤ w.toNat ∧ w.toNat ≤ 14))) ∧
    ((w.extractLsb' 4 28 ≠ 0#28 ∨ (7 ≤ w.toNat ∧ w.toNat ≤ 14)) → ∀ s : State,
      (s.err = false → exec (.wr 0x00#8 w) s = .next { s with err := true, errcode := 0x1#4 }) ∧
      (s.err = true → exec (.wr 0x00#8 w) s = .next s))

/-- 10_state.md R19: a write to CMD starts the command its word encodes; CMD keeps no value. The first clause says
that the two forms in which a command stands at the port (entry 3) are one transaction, for illegal words too. -/
def Obligations.CmdWriteRunsTheCommand : Prop :=
  (∀ (w : Word) (s : State), perform (.command w) s = exec (.wr 0x00#8 w) s) ∧
  (∀ (c : Command) (s : State), exec (.wr 0x00#8 (encodeCommand c)) s = exec (Instr.ofCommand c) s) ∧
  (∀ s : State, exec (.rd 0x00#8) s = .next { s with reply := some 0#32 })

/-! ## The step -/

/-- A step performs the first transaction at the port: the decoded instruction runs on the state with that event
taken off and no read data standing (the port's form is the model's, entries 1 and 2). A request the decoder refuses is a
command word (30_encoding.md R67): the step is the write of that word to CMD, which raises ILLEGAL_CMD when ERR = 0 and
does nothing when ERR = 1. -/
def Obligations.StepRunsTheDecodedInstruction : Prop :=
  ∀ (s : State) (r : Request) (rest : List PortEvent), s.pending = .transaction .host r :: rest →
    (∀ i : Instr, decode r = .ok i → i.wellFormed = true →
      step s = exec i { s with pending := rest, reply := none }) ∧
    (∀ e : DecodeError, decode r = .error e → ∃ w : Word, r = .command w ∧
      step s = exec (.wr 0x00#8 w) { s with pending := rest, reply := none } ∧
      (s.err = false → step s = .next { s with pending := rest, reply := none, err := true, errcode := 0x1#4 }) ∧
      (s.err = true → step s = .next { s with pending := rest, reply := none }))

/-- A word of the opcode table that the decoder reads is what the next step runs. -/
def Obligations.FetchedWordRuns : Prop :=
  ∀ (s : State) (nbits w : Nat) (i : Instr), decodeTableWord nbits w = some i →
    step (s.withFetchWord nbits w) = exec i { s with reply := none }

/-- Transactions are performed one at a time, in the order issued (20_memory.md R43): a step takes exactly the first
event off the port, and with none it waits unchanged (70_reset_and_hazards.md R168). -/
def Obligations.StepTakesTheFirstEvent : Prop :=
  (∀ s t : State, step s = .next t → t.pending = s.pending.tail) ∧
  (∀ s : State, s.pending = [] → step s = .next s)

/-- With one host at the port every step answers a next state: no error stops the CPD (60_exceptions.md R148). -/
def Obligations.SingleHostNeverStops : Prop :=
  ∀ s : State, SingleHost s → ∃ t, step s = .next t ∧ SingleHost t

/-- A second agent is refused (20_memory.md R59). -/
def Obligations.SecondHostIsRefused : Prop :=
  ∀ (s : State) (r : Request) (rest : List PortEvent),
    s.pending = .transaction .other r :: rest → step s = .refused .secondHost

/-! ## Reset -/

/-- 70_reset_and_hazards.md R166: what every offset reads and what every raw calibration word is after reset, and that
SRST has the same effect on any state. -/
def Obligations.ResetZeroesEveryRegister : Prop :=
  (∀ off : Offset, readOffset off State.reset = 0#32) ∧ (∀ k : Fin 12, State.reset.cal[k] = 0#16) ∧
  (∀ s : State, exec .srst s = .next { State.reset with pending := s.pending, reply := s.reply })

/-- `rst` asserted in any state leaves the reset state (70_reset_and_hazards.md R166). That `rst` is one event between
transactions, after which no read data stands, is the model's choice (entries 2 and 7). -/
def Obligations.RstResetsAnyState : Prop :=
  ∀ (s : State) (rest : List PortEvent), s.pending = .reset :: rest →
    step s = .next { State.reset with pending := rest, reply := none }

/-- The spec's own derivation in 70_reset_and_hazards.md (R167, "[derived: from rule R166 …]"): after reset each compute
command raises INPUT_MISSING, and no output is present. -/
def Obligations.ResetLeavesNoInputs : Prop :=
  exec .decht State.reset = .next { State.reset with err := true, errcode := 0x2#4 } ∧
  exec .compt State.reset = .next { State.reset with err := true, errcode := 0x2#4 } ∧
  exec .compp State.reset = .next { State.reset with err := true, errcode := 0x2#4 } ∧
  exec .comptp State.reset = .next { State.reset with err := true, errcode := 0x2#4 } ∧
  humidityReading State.reset = none ∧ pressureReading State.reset = none

/-! ## The register address space -/

/-- 20_memory.md R48 with the values of 10_state.md R27 to R35: what each readable register returns, and that a read
changes nothing but the answer at the port. -/
def Obligations.ReadsReturnTheRegister : Prop :=
  ∀ s : State,
    (∀ off : Offset, exec (.rd off) s = .next { s with reply := some (readOffset off s) }) ∧
    readOffset 0x04#8 s = statusWord s ∧
    readOffset 0x08#8 s = s.htIn0 ∧
    (readOffset 0x0C#8 s).toNat = s.htIn1.toNat ∧
    (readOffset 0x10#8 s).toNat = s.adctIn.toNat ∧
    (readOffset 0x14#8 s).toNat = s.adcpIn.toNat ∧
    (∀ k : Fin 12, (readOffset (calOffset k) s).toInt =
      if k = 0 ∨ k = 3 then (s.cal[k].toNat : Int) else s.cal[k].toInt) ∧
    (readOffset 0x48#8 s).toNat = s.humRaw.toNat ∧
    (readOffset 0x4C#8 s).toNat = s.htempRaw.toNat ∧
    (readOffset 0x50#8 s).toNat = s.ut.toNat ∧
    readOffset 0x54#8 s = s.tfine ∧
    readOffset 0x58#8 s = s.tout ∧
    (readOffset 0x5C#8 s).toNat = s.up.toNat ∧
    readOffset 0x60#8 s = s.pout

/-- 10_state.md R20 and R26: the place of each STATUS field in the word a read returns, and the reserved bits. -/
def Obligations.StatusWordLayout : Prop :=
  ∀ s : State, ∃ w : Word, exec (.rd 0x04#8) s = .next { s with reply := some w } ∧
    w.getLsbD 0 = s.err ∧ w.extractLsb' 1 3 = 0#3 ∧ w.extractLsb' 4 4 = s.errcode ∧
    w.getLsbD 8 = s.hin0V ∧ w.getLsbD 9 = s.hin1V ∧ w.getLsbD 10 = s.adctV ∧ w.getLsbD 11 = s.adcpV ∧
    w.getLsbD 12 = s.houtV ∧ w.getLsbD 13 = s.toutV ∧ w.getLsbD 14 = s.poutV ∧ w.getLsbD 15 = false ∧
    w.extractLsb' 16 12 = s.calV ∧ w.extractLsb' 28 4 = 0#4

/-- 20_memory.md R47: bad writes and bad reads. -/
def Obligations.BadAccesses : Prop :=
  (∀ (off : Offset) (v : Word) (s : State), BadWriteOffset off →
    (s.err = false → exec (.wr off v) s = .next { s with err := true, errcode := 0x7#4 }) ∧
    (s.err = true → exec (.wr off v) s = .next s)) ∧
  (∀ (off : Offset) (s : State), BadReadOffset off → exec (.rd off) s = .next { s with reply := some 0#32 })

/-- 20_memory.md R50 and R51: an accepted input write stores its field, sets its valid bit, and makes
the outputs that depend on it absent, whatever the value of ERR. -/
def Obligations.InputWritesStoreAndInvalidate : Prop :=
  ∀ (v : Word) (s : State),
    exec (.wr 0x08#8 v) s = .next { s with htIn0 := v, hin0V := true, houtV := false } ∧
    exec (.wr 0x0C#8 v) s = .next { s with htIn1 := v.extractLsb' 0 24, hin1V := true, houtV := false } ∧
    exec (.wr 0x10#8 v) s =
      .next { s with adctIn := v.extractLsb' 0 24, adctV := true, toutV := false, poutV := false } ∧
    exec (.wr 0x14#8 v) s = .next { s with adcpIn := v.extractLsb' 0 24, adcpV := true, poutV := false } ∧
    ∀ k : Fin 12, ∃ t, exec (.wr (calOffset k) v) s = .next t ∧
      t = { s with cal := t.cal, calV := t.calV, toutV := if k.val < 3 then false else s.toutV, poutV := false } ∧
      (∀ j : Fin 12, t.cal[j] = if j = k then v.extractLsb' 0 16 else s.cal[j]) ∧
      (∀ j : Fin 12, t.calV.getLsbD j = (decide (j = k) || s.calV.getLsbD j))

/-- 20_memory.md R49: what an accepted input write stores reads back, the ignored bits as 0 (a calibration word in
its interpreted form, 10_state.md R30), and every offset but that register's and STATUS reads as before. -/
def Obligations.InputWritesReadBack : Prop :=
  ∀ (off : Offset) (v : Word) (s : State), InputOffset off →
    ∃ t, exec (.wr off v) s = .next t ∧
      (off.toNat < 0x18 → readOffset off t = v &&& storedMask off) ∧
      (0x18 ≤ off.toNat → (readOffset off t).toInt =
        if off.toNat = 0x18 ∨ off.toNat = 0x24 ∨ (v &&& storedMask off).toNat < 32768
        then ((v &&& storedMask off).toNat : Int) else (v &&& storedMask off).toNat - 65536) ∧
      (∀ o : Offset, o ≠ off → o ≠ 0x04#8 → readOffset o t = readOffset o s)

/-! ## The humidity decoder -/

/-- 40_decoder.md R82 to R84: DECHT on the bytes b0 to b6, and its one error. -/
def Obligations.DechtDecodesTheBytes : Prop :=
  ∀ (s : State) (b0 b1 b2 b3 b4 b5 b6 : Byte),
    s.err = false → s.htIn0 = b0 ++ b1 ++ b2 ++ b3 → s.htIn1 = b4 ++ b5 ++ b6 →
    (s.hin0V = true → s.hin1V = true → exec .decht s = .next { s with
      humRaw := BitVec.ofNat 20 (b1.toNat * 2 ^ 12 + b2.toNat * 2 ^ 4 + b3.toNat / 2 ^ 4)
      htempRaw := BitVec.ofNat 20 (b3.toNat % 2 ^ 4 * 2 ^ 16 + b4.toNat * 2 ^ 8 + b5.toNat)
      houtV := true }) ∧
    (s.hin0V = false ∨ s.hin1V = false →
      exec .decht s = .next { s with err := true, errcode := 0x2#4, houtV := false })

/-- 40_decoder.md R85 and R86: the status byte b0 and the byte b6 have no effect on what DECHT does. -/
def Obligations.DechtIgnoresStatusAndCrc : Prop :=
  ∀ (s t : State) (b0 b6 : Byte), exec .decht s = .next t →
    exec .decht { s with htIn0 := b0 ++ s.htIn0.extractLsb' 0 24, htIn1 := s.htIn1.extractLsb' 8 16 ++ b6 } =
      .next { t with htIn0 := b0 ++ s.htIn0.extractLsb' 0 24, htIn1 := s.htIn1.extractLsb' 8 16 ++ b6 }

/-- 40_decoder.md R90: the source's worked example, for every b0 and b6. -/
def Obligations.ZeroBytesReadMinusFifty : Prop :=
  ∀ (s : State) (b0 b6 : Byte), s.err = false → s.hin0V = true → s.hin1V = true →
    s.htIn0 = b0 ++ 0#24 → s.htIn1 = 0#16 ++ b6 →
    ∃ t, exec .decht s = .next t ∧ t.humRaw = 0#20 ∧ t.htempRaw = 0#20 ∧ humidityReading t = some (-50, 0)

/-- 70_reset_and_hazards.md R180 with the formulas of 40_decoder.md R87 and R88, for every byte sequence: after a DECHT
that succeeds the humidity driver's result is (TH, RH) of the fields it decoded, after one that fails it is absent. -/
def Obligations.HumidityReadingOfEveryMeasurement : Prop :=
  ∀ (s t : State) (b0 b1 b2 b3 b4 b5 b6 : Byte), s.err = false →
    s.htIn0 = b0 ++ b1 ++ b2 ++ b3 → s.htIn1 = b4 ++ b5 ++ b6 → exec .decht s = .next t →
    (t.err = false → humidityReading t = some
      (((b3.toNat % 2 ^ 4 * 2 ^ 16 + b4.toNat * 2 ^ 8 + b5.toNat : Nat) : ℚ) * 200 / 2 ^ 20 - 50,
       ((b1.toNat * 2 ^ 12 + b2.toNat * 2 ^ 4 + b3.toNat / 2 ^ 4 : Nat) : ℚ) * 100 / 2 ^ 20)) ∧
    (t.err = true → humidityReading t = none)

/-- The spec's own derivation in 40_decoder.md (R89): the ranges of the two physical values, and that both step in exact
multiples of 100 / 2^20 and 200 / 2^20. -/
def Obligations.HumidityReadingRanges : Prop :=
  (∀ h : Count, 0 ≤ relativeHumidity h ∧ relativeHumidity h ≤ 100 * (2 ^ 20 - 1) / 2 ^ 20) ∧
  (∀ t : Count, -50 ≤ humidityCelsius t ∧ humidityCelsius t ≤ 150 - 200 / 2 ^ 20) ∧
  (∀ h h' : Count, relativeHumidity h' - relativeHumidity h = ((h'.toNat : ℚ) - h.toNat) * (100 / 2 ^ 20)) ∧
  (∀ t t' : Count, humidityCelsius t' - humidityCelsius t = ((t'.toNat : ℚ) - t.toNat) * (200 / 2 ^ 20))

/-! ## Stage 1 -/

/-- 41_compensation.md R105 with the formula of R104 (which the spec marks as general knowledge, entry 9), the operands
of R102 and R100, written out in exact integers; `/` of `Int` by a positive number rounds toward minus infinity. -/
def Obligations.ComptComputesStage1 : Prop :=
  ∀ s : State, s.err = false →
    (s.adctV = false →
      exec .compt s = .next { s with err := true, errcode := 0x2#4, toutV := false, poutV := false }) ∧
    (s.adctV = true → s.calV.extractLsb' 0 3 ≠ 0b111#3 →
      exec .compt s = .next { s with err := true, errcode := 0x3#4, toutV := false, poutV := false }) ∧
    (s.adctV = true → s.calV.extractLsb' 0 3 = 0b111#3 →
      let adc : Int := (s.adctIn.toNat / 16 : Nat)
      let T1 : Int := s.cal[0].toNat
      let T2 : Int := s.cal[1].toInt
      let T3 : Int := s.cal[2].toInt
      let d : Int := adc / 2 ^ 4 - T1
      let tFine : Int := (adc / 2 ^ 3 - T1 * 2) * T2 / 2 ^ 11 + d * d / 2 ^ 12 * T3 / 2 ^ 14
      ∃ t, exec .compt s = .next t ∧
        t = { s with ut := t.ut, tfine := t.tfine, tout := t.tout, toutV := true } ∧
        (t.ut.toNat : Int) = adc ∧ t.tfine.toInt = tFine ∧ t.tout.toInt = (tFine * 5 + 128) / 2 ^ 8)

/-- The spec's own derivation in 41_compensation.md (R118): every t_fine and T that stage 1 can compute lies in these
ranges, so both fit their registers. -/
def Obligations.Stage1Ranges : Prop :=
  ∀ (adc : Count) (t1 t2 t3 : Half),
    -4194224 ≤ (compT adc.toNat t1.toNat (s16 t2) (s16 t3)).tFine ∧
    (compT adc.toNat t1.toNat (s16 t2) (s16 t3)).tFine ≤ 4194144 ∧
    -81918 ≤ (compT adc.toNat t1.toNat (s16 t2) (s16 t3)).temp ∧
    (compT adc.toNat t1.toNat (s16 t2) (s16 t3)).temp ≤ 81917

/-- The spec's own derivation in 41_compensation.md (R118): a 36-bit two's complement datapath computes stage 1
exactly. The datapath is the model's own way to state it (entry 19, DESIGN CHOICE); the machine does not use it. -/
def Obligations.Stage1FitsThirtySixBits : Prop :=
  ∀ (adc : Count) (t1 t2 t3 : Half),
    (compT36 adc t1 t2 t3).1.toInt = (compT adc.toNat t1.toNat (s16 t2) (s16 t3)).tFine ∧
    (compT36 adc t1 t2 t3).2.toInt = (compT adc.toNat t1.toNat (s16 t2) (s16 t3)).temp

/-! ## Stage 2 -/

/-- 41_compensation.md R110 with the formula of R107 (which the spec marks as general knowledge, entry 9), written out
in exact integers: the five errors in the order of their checks, and the result. -/
def Obligations.ComppComputesStage2 : Prop :=
  ∀ s : State, s.err = false →
    (s.adcpV = false → exec .compp s = .next { s with err := true, errcode := 0x2#4, poutV := false }) ∧
    (s.adcpV = true → s.calV.extractLsb' 3 9 ≠ 0x1FF#9 →
      exec .compp s = .next { s with err := true, errcode := 0x3#4, poutV := false }) ∧
    (s.adcpV = true → s.calV.extractLsb' 3 9 = 0x1FF#9 → s.toutV = false →
      exec .compp s = .next { s with err := true, errcode := 0x4#4, poutV := false }) ∧
    (s.adcpV = true → s.calV.extractLsb' 3 9 = 0x1FF#9 → s.toutV = true →
      let adc : Int := (s.adcpIn.toNat / 16 : Nat)
      let v : Int := s.tfine.toInt - 128000
      let P1 : Int := s.cal[3].toNat
      let P2 : Int := s.cal[4].toInt
      let P3 : Int := s.cal[5].toInt
      let P4 : Int := s.cal[6].toInt
      let P5 : Int := s.cal[7].toInt
      let P6 : Int := s.cal[8].toInt
      let P7 : Int := s.cal[9].toInt
      let P8 : Int := s.cal[10].toInt
      let P9 : Int := s.cal[11].toInt
      let var2 : Int := v * v * P6 + v * P5 * 2 ^ 17 + P4 * 2 ^ 35
      let div : Int := (2 ^ 47 + (v * v * P3 / 2 ^ 8 + v * P2 * 2 ^ 12)) * P1 / 2 ^ 33
      let p : Int := Int.tdiv (((1048576 - adc) * 2 ^ 31 - var2) * 3125) div
      let r : Int := (p + P9 * (p / 2 ^ 13) * (p / 2 ^ 13) / 2 ^ 25 + P8 * p / 2 ^ 19) / 2 ^ 8 + P7 * 2 ^ 4
      (div = 0 → exec .compp s = .next { s with err := true, errcode := 0x5#4, poutV := false }) ∧
      (div ≠ 0 → (r < 0 ∨ 2 ^ 32 - 1 < r) →
        exec .compp s = .next { s with err := true, errcode := 0x6#4, poutV := false }) ∧
      (div ≠ 0 → 0 ≤ r → r ≤ 2 ^ 32 - 1 →
        ∃ t, exec .compp s = .next t ∧ t = { s with up := t.up, pout := t.pout, poutV := true } ∧
          (t.up.toNat : Int) = adc ∧ (t.pout.toNat : Int) = r))

/-- The spec's own derivation in 41_compensation.md (R109): when stage 2 is degenerate, and that P1 = 0 always is. -/
def Obligations.DegenerateExactlyBelow : Prop :=
  (∀ (adc tFine : Int) (c : PressureCoefs), compP adc tFine c = none ↔
    0 ≤ (2 ^ 47 + stage2Var1 tFine c) * c.p1 ∧ (2 ^ 47 + stage2Var1 tFine c) * c.p1 < 2 ^ 33) ∧
  (∀ (adc tFine : Int) (c : PressureCoefs), c.p1 = 0 → compP adc tFine c = none)

/-- 41_compensation.md R111: truncation and floor agree when the signs agree or the division is exact, differ by one
when they do not; and the rule's example, step by step. -/
def Obligations.DivisionTruncates : Prop :=
  (∀ n d : Int, d ≠ 0 → ((0 ≤ n ∧ 0 < d) ∨ (n ≤ 0 ∧ d < 0) ∨ d ∣ n) → tdiv n d = Int.fdiv n d) ∧
  (∀ n d : Int, ((0 < n ∧ d < 0) ∨ (n < 0 ∧ 0 < d)) → ¬ d ∣ n → tdiv n d = Int.fdiv n d + 1) ∧
  (let c : PressureCoefs := ⟨26991, 14893, -10425, -426, -17352, 8431, -29747, 8548, 25243⟩
   (shl (1048576 - 224175) 31 - stage2Var2 (-711655) c) * 3125 = -18964631108613996875 ∧
   stage2Divisor (-711655) c = 191064975 ∧
   stage2Quotient 224175 (-711655) c = -99257496611 ∧
   compP 224175 (-711655) c = some 36895610 ∧
   Int.fdiv (-18964631108613996875) 191064975 = -99257496612 ∧
   stage2Correct (-99257496612) c = 36895609)

/-- The spec's own derivation in 41_compensation.md (R118): the range of the divisor over the whole domain of t_fine. -/
def Obligations.DivisorRange : Prop :=
  ∀ (tFine : Int) (cal : Vector Half 12), -4194224 ≤ tFine → tFine ≤ 4194144 →
    -21595520787 ≤ stage2Divisor tFine (pressureCoefs { State.reset with cal := cal }) ∧
    stage2Divisor tFine (pressureCoefs { State.reset with cal := cal }) ≤ 23742549986

/-- The spec's own derivation in 41_compensation.md (R118): a 132-bit two's complement datapath computes stage 2 exactly
for every t_fine that stage 1 can compute. The datapath is the model's own way to state it (entry 19, DESIGN CHOICE);
the machine does not use it. -/
def Obligations.Stage2Fits132Bits : Prop :=
  ∀ (adc : Count) (f : Word) (s : State), -4194224 ≤ f.toInt → f.toInt ≤ 4194144 →
    compP adc.toNat f.toInt (pressureCoefs s) = (compP132 adc f s.cal).map BitVec.toInt

/-! ## Both stages -/

/-- 41_compensation.md R115: COMPTP's errors in the order of its checks, each leaving both outputs absent and every
data register as it was, and its result when it succeeds. -/
def Obligations.ComptpComputesBothStages : Prop :=
  ∀ s : State, s.err = false →
    (s.adctV = false → exec .comptp s = .next (failed 0x2#4 ⟨false, true, true⟩ s)) ∧
    (s.adctV = true → s.calV.extractLsb' 0 3 ≠ 0b111#3 →
      exec .comptp s = .next (failed 0x3#4 ⟨false, true, true⟩ s)) ∧
    (s.adctV = true → s.calV.extractLsb' 0 3 = 0b111#3 → s.adcpV = false →
      exec .comptp s = .next (failed 0x2#4 ⟨false, true, true⟩ s)) ∧
    (s.adctV = true → s.calV.extractLsb' 0 3 = 0b111#3 → s.adcpV = true → s.calV.extractLsb' 3 9 ≠ 0x1FF#9 →
      exec .comptp s = .next (failed 0x3#4 ⟨false, true, true⟩ s)) ∧
    (s.adctV = true → s.adcpV = true → s.calV = 0xFFF#12 →
      let adcT : Int := (s.adctIn.toNat / 16 : Nat)
      let adcP : Int := (s.adcpIn.toNat / 16 : Nat)
      let one := compT adcT (coef 0 s) (coef 1 s) (coef 2 s)
      let two := compP adcP one.tFine
        ⟨coef 3 s, coef 4 s, coef 5 s, coef 6 s, coef 7 s, coef 8 s, coef 9 s, coef 10 s, coef 11 s⟩
      (two = none → exec .comptp s = .next (failed 0x5#4 ⟨false, true, true⟩ s)) ∧
      (∀ r, two = some r → (r < 0 ∨ 2 ^ 32 - 1 < r) →
        exec .comptp s = .next (failed 0x6#4 ⟨false, true, true⟩ s)) ∧
      (∀ r, two = some r → 0 ≤ r → r ≤ 2 ^ 32 - 1 →
        ∃ t, exec .comptp s = .next t ∧
          t = { s with ut := t.ut, tfine := t.tfine, tout := t.tout, up := t.up, pout := t.pout,
                       toutV := true, poutV := true } ∧
          (t.ut.toNat : Int) = adcT ∧ t.tfine.toInt = one.tFine ∧ t.tout.toInt = one.temp ∧
          (t.up.toNat : Int) = adcP ∧ (t.pout.toNat : Int) = r))

/-- 41_compensation.md R115, corner cases (marked there as the spec's own derivation): COMPTP leaves what COMPT followed
by COMPP leaves, when both succeed. -/
def Obligations.ComptpIsComptThenCompp : Prop :=
  ∀ s t u : State, s.err = false → exec .compt s = .next t → t.err = false →
    exec .compp t = .next u → u.err = false → exec .comptp s = .next u

/-- The spec's own derivation in 41_compensation.md (R117), and the same of DECHT (40_decoder.md R84): a compute command
repeated with nothing between changes nothing more, whether it succeeded or failed. -/
def Obligations.ComputeIsIdempotent : Prop :=
  ∀ i ∈ [Instr.decht, .compt, .compp, .comptp], ∀ s t : State, exec i s = .next t → exec i t = .next t

/-! ## The control commands -/

/-- 42_control.md R131, R133 and R134: NOP, CLRERR and SRST, whatever the value of ERR. -/
def Obligations.ControlCommandsAlwaysExecute : Prop :=
  ∀ s : State,
    exec .nop s = .next s ∧
    exec .clrerr s = .next { s with err := false, errcode := 0x0#4 } ∧
    exec .srst s = .next { State.reset with pending := s.pending, reply := s.reply }

/-- 42_control.md R134: after SRST every offset reads 0 and every raw calibration word is 0. -/
def Obligations.SrstReadsZeroEverywhere : Prop :=
  ∀ s : State, ∃ t, exec .srst s = .next t ∧ (∀ off : Offset, readOffset off t = 0#32) ∧
    (∀ k : Fin 12, t.cal[k] = 0#16)

/-- 42_control.md R132: CLRCAL is ignored while ERR = 1; otherwise it clears CAL_V, TOUT_V and POUT_V, every offset but
STATUS reads as before, and with its input present each compensation command then raises CAL_MISSING. -/
def Obligations.ClrcalInvalidatesTheTable : Prop :=
  ∀ s : State,
    (s.err = true → exec .clrcal s = .next s) ∧
    (s.err = false → ∃ t, exec .clrcal s = .next t ∧
      t = { s with calV := 0#12, toutV := false, poutV := false } ∧
      (∀ off : Offset, off ≠ 0x04#8 → readOffset off t = readOffset off s) ∧
      (s.adctV = true → exec .compt t = .next { t with err := true, errcode := 0x3#4 }) ∧
      (s.adcpV = true → exec .compp t = .next { t with err := true, errcode := 0x3#4 }) ∧
      (s.adctV = true → exec .comptp t = .next { t with err := true, errcode := 0x3#4 }))

/-! ## Errors -/

/-- 60_exceptions.md R149: what a recorded error gates and what it does not. -/
def Obligations.ErrorGatesCommands : Prop :=
  ∀ s : State, s.err = true →
    (∀ w : Word, w ≠ 0x00000000#32 → w ≠ 0x00000006#32 → w ≠ 0x0000000F#32 → exec (.wr 0x00#8 w) s = .next s) ∧
    exec (.wr 0x00#8 0x00000000#32) s = .next s ∧
    exec (.wr 0x00#8 0x00000006#32) s = .next { s with err := false, errcode := 0x0#4 } ∧
    exec (.wr 0x00#8 0x0000000F#32) s = .next { State.reset with pending := s.pending, reply := s.reply } ∧
    (∀ (off : Offset) (v : Word), BadWriteOffset off → exec (.wr off v) s = .next s) ∧
    (∀ off : Offset, exec (.rd off) s = .next { s with reply := some (readOffset off s) }) ∧
    (∀ (off : Offset) (v : Word) (t : State), InputOffset off →
      exec (.wr off v) { s with err := false, errcode := 0x0#4 } = .next t →
      exec (.wr off v) s = .next { t with err := true, errcode := s.errcode })

/-- 10_state.md R21 and R22, for every instruction: the first error is kept until CLRERR or SRST clears it. -/
def Obligations.FirstErrorIsKept : Prop :=
  ∀ (i : Instr) (s t : State), s.err = true → exec i s = .next t →
    (commandOf i = some .clrerr ∨ commandOf i = some .srst → t.err = false ∧ t.errcode = 0x0#4) ∧
    (¬ (commandOf i = some .clrerr ∨ commandOf i = some .srst) → t.err = true ∧ t.errcode = s.errcode)

/-- 60_exceptions.md R146, for every instruction: an operation that records an error changes ERR, ERRCODE and the valid
bits of its own output groups, and nothing else; the code is one of 0x1 to 0x7. -/
def Obligations.FailuresAreNeverPartial : Prop :=
  ∀ (i : Instr) (s t : State), s.err = false → exec i s = .next t → t.err = true →
    t = failed t.errcode (groupsOf i) s ∧ 1 ≤ t.errcode.toNat ∧ t.errcode.toNat ≤ 7

/-- 70_reset_and_hazards.md R180 after both compensations of R179, COMPTP and COMPT then COMPP: after a failure the
pressure driver's result is absent in both fields, and after success it is present in both. -/
def Obligations.PressureReadingIsNeverPartial : Prop :=
  ∀ s u : State, s.err = false →
    (exec .comptp s = .next u ∨ ∃ t, exec .compt s = .next t ∧ exec .compp t = .next u) →
    (u.err = true → pressureReading u = none) ∧
    (u.err = false → pressureReading u = some ((u.tout.toInt : ℚ) / 100, (u.pout.toNat : ℚ) / 256))

/-! ## Whole-machine rules -/

/-- The invariants of 10_state.md R39 (the spec's own derivation) hold after reset. -/
def Obligations.InvariantAtReset : Prop := Invariant State.reset

/-- The invariants of 10_state.md R39 (the spec's own derivation) are kept by every step, from every state that has
them. -/
def Obligations.EveryStepKeepsInvariant : Prop :=
  ∀ s t : State, Invariant s → step s = .next t → Invariant t

/-- 41_compensation.md R96: no command but SRST, which zeroes every register (42_control.md R134, entry 16), writes the
calibration table; a host write of CALk does. -/
def Obligations.OnlyHostWritesTheTable : Prop :=
  ∀ (i : Instr) (s t : State), exec i s = .next t → t.cal ≠ s.cal →
    commandOf i = some .srst ∨ ∃ (k : Fin 12) (v : Word), i = .wr (calOffset k) v

/-- 10_state.md R31 and R32, for every instruction: the output data registers are written only by the success of
the commands of their group, and zeroed by SRST. -/
def Obligations.OutputsWrittenOnlyBySuccess : Prop :=
  ∀ (i : Instr) (s t : State), exec i s = .next t → commandOf i ≠ some .srst →
    ((t.humRaw ≠ s.humRaw ∨ t.htempRaw ≠ s.htempRaw) → commandOf i = some .decht ∧ t.houtV = true) ∧
    ((t.ut ≠ s.ut ∨ t.tfine ≠ s.tfine ∨ t.tout ≠ s.tout) →
      (commandOf i = some .compt ∨ commandOf i = some .comptp) ∧ t.toutV = true) ∧
    ((t.up ≠ s.up ∨ t.pout ≠ s.pout) →
      (commandOf i = some .compp ∨ commandOf i = some .comptp) ∧ t.poutV = true)

/-- 10_state.md R23 and R24, for every instruction: an input valid bit is cleared by SRST only, a calibration valid
bit by SRST and CLRCAL only, the latter for all k at once. -/
def Obligations.InputValidBitsStay : Prop :=
  ∀ (i : Instr) (s t : State), exec i s = .next t → commandOf i ≠ some .srst →
    (s.hin0V = true → t.hin0V = true) ∧ (s.hin1V = true → t.hin1V = true) ∧
    (s.adctV = true → t.adctV = true) ∧ (s.adcpV = true → t.adcpV = true) ∧
    ((∃ k : Fin 12, s.calV.getLsbD k = true ∧ t.calV.getLsbD k = false) →
      commandOf i = some .clrcal ∧ t.calV = 0#12)

/-- What an instruction leaves at the port (entries 1 and 2 are the model's): nothing it does changes what the host
has still to ask, and only a read answers. -/
def Obligations.PortFrame : Prop :=
  ∀ (i : Instr) (s t : State), exec i s = .next t →
    t.pending = s.pending ∧ ((∀ off, i ≠ .rd off) → t.reply = s.reply)

/-! ## The host's notation and duties -/

/-- 30_encoding.md R70 and 41_compensation.md R97: `LDCALB` writes CAL0 to CAL11 in order, each with the byte of the lower
sensor register as its less significant byte. -/
def Obligations.LdcalbIsLittleEndian : Prop :=
  ∀ (bytes : Vector Byte 24), (expand (.ldcalb bytes)).length = 12 ∧
    ∀ k : Fin 12, ∃ v : Word, (expand (.ldcalb bytes))[k.val]? = some (.wr (calOffset k) v) ∧
      v.toNat = (bytes.toList[2 * k.val]?.getD 0#8).toNat + (bytes.toList[2 * k.val + 1]?.getD 0#8).toNat * 2 ^ 8

/-- 70_reset_and_hazards.md R173 and R182: in the unbounded wait each status that is not 0x18 is followed by exactly one
init write, and the first 0x18 ends the wait. With a bound (how it is counted is the model's choice, entry 15) the
wait ends in a timeout after that many init writes. -/
def Obligations.CalibrationWaitInitWrites : Prop :=
  ∀ (bs : List Byte) (rest : List Poll), (∀ b ∈ bs, b ≠ 0x18#8) →
    (awaitCalibration none (bs.map .status ++ .status 0x18#8 :: rest)).outcome = .ready ∧
    (awaitCalibration none (bs.map .status ++ .status 0x18#8 :: rest)).ops.count initWrite = bs.length ∧
    (∀ n, n < bs.length →
      (awaitCalibration (some n) (bs.map .status ++ .status 0x18#8 :: rest)).outcome = .timeout ∧
      (awaitCalibration (some n) (bs.map .status ++ .status 0x18#8 :: rest)).ops.count initWrite = n)

/-- 70_reset_and_hazards.md R174: with the unbounded wait a sensor that answers every read and never reports 0x18 is a
hang, and the driver has not returned however long it is watched; it is no absent reading. With a bound (counted as entry
15 says, the model's choice) the same sensor ends in CalibrationTimeout and (absent, absent). -/
def Obligations.NeverReadySensorHangs : Prop :=
  ∀ polls : Nat → Poll, (∀ n, ∃ b, polls n = .status b ∧ b ≠ 0x18#8) →
    CalibrationHangs none polls ∧
    (∀ (n : Nat) (m : Option Nat) (bytes : Vector Byte 7) (r : Option (ℚ × ℚ)),
      driverReturn (humidityInvocation none ⟨none, (List.range n).map polls, m, bytes⟩).outcome r = .notReturned) ∧
    (∀ (limit n : Nat) (m : Option Nat) (bytes : Vector Byte 7) (r : Option (ℚ × ℚ)), limit < n →
      driverReturn (humidityInvocation (some limit) ⟨none, (List.range n).map polls, m, bytes⟩).outcome r =
        .failed .calibrationTimeout)

/-- 70_reset_and_hazards.md R174 and R185: an invocation of either driver that a bus failure or a timeout cuts off has
issued no command to the CPD, has done nothing after the transaction that failed, and returns (absent, absent) whatever
the CPD holds. Without a failure the pressure driver does all its acts. (How a failure is given to the model, and the order of the acts, are its own, entries 18 and 22.) -/
def Obligations.AbortedInvocationIssuesNoCommand : Prop :=
  (∀ (limit : Option Nat) (b : HumidityBus) (r : Option (ℚ × ℚ)),
    (humidityInvocation limit b).outcome = .transportError ∨
      (humidityInvocation limit b).outcome = .calibrationTimeout →
    (∀ c, Stmt.cmd c ∉ (humidityInvocation limit b).stmts) ∧
    (driverReturn (humidityInvocation limit b).outcome r).fields = some none) ∧
  (∀ (reload : Bool) (how : CompensateBy) (b : PressureBus) (r : Option (ℚ × ℚ)),
    (pressureInvocation reload how b).outcome = .transportError →
    (∀ c, Stmt.cmd c ∉ (pressureInvocation reload how b).stmts) ∧
    (∃ before op after, pressureScript reload how b = before ++ .bus op :: after ∧
      HostAct.canFail (.bus op) = true ∧ (pressureInvocation reload how b).acts = before ++ [.bus op]) ∧
    (driverReturn (pressureInvocation reload how b).outcome r).fields = some none) ∧
  (∀ (reload : Bool) (how : CompensateBy) (b : PressureBus), b.fails = none →
    (pressureInvocation reload how b).outcome = .completed ∧
    (pressureInvocation reload how b).acts = pressureScript reload how b)

/-- 41_compensation.md R98: a host that keeps the table and one that loads it again for the measurement get the same
results. Where the CPD holds the table, an invocation that leaves the calibration step out and one that does not leave
the same state. -/
def Obligations.CachedTableGivesTheSameResult : Prop :=
  ∀ (how : CompensateBy) (b : PressureBus) (s : State),
    b.fails = none → s.calV = 0xFFF#12 → s.cal = calWords b.calibration →
    transact (pressureInvocation false how b).issued s = transact (pressureInvocation true how b).issued s
end

