-- ==== Sys2Proof/Laws/State.lean ====
section
/-! SUPPORT. One lemma per field per update of the state, each true by unfolding, so that no later proof
unfolds a record update. -/

namespace Sys2Proof.Machine

variable (s : State)

/-! ## raiseError -/

@[simp] theorem raiseError_err (code : ErrCode) (g : OutGroups) : (raiseError code g s).err = true := rfl
@[simp] theorem raiseError_errcode (code : ErrCode) (g : OutGroups) : (raiseError code g s).errcode = if s.err then s.errcode else codeBits code := rfl
@[simp] theorem raiseError_hin0V (code : ErrCode) (g : OutGroups) : (raiseError code g s).hin0V = s.hin0V := rfl
@[simp] theorem raiseError_hin1V (code : ErrCode) (g : OutGroups) : (raiseError code g s).hin1V = s.hin1V := rfl
@[simp] theorem raiseError_adctV (code : ErrCode) (g : OutGroups) : (raiseError code g s).adctV = s.adctV := rfl
@[simp] theorem raiseError_adcpV (code : ErrCode) (g : OutGroups) : (raiseError code g s).adcpV = s.adcpV := rfl
@[simp] theorem raiseError_houtV (code : ErrCode) (g : OutGroups) : (raiseError code g s).houtV = (s.houtV && !g.h) := rfl
@[simp] theorem raiseError_toutV (code : ErrCode) (g : OutGroups) : (raiseError code g s).toutV = (s.toutV && !g.t) := rfl
@[simp] theorem raiseError_poutV (code : ErrCode) (g : OutGroups) : (raiseError code g s).poutV = (s.poutV && !g.p) := rfl
@[simp] theorem raiseError_calV (code : ErrCode) (g : OutGroups) : (raiseError code g s).calV = s.calV := rfl
@[simp] theorem raiseError_htIn0 (code : ErrCode) (g : OutGroups) : (raiseError code g s).htIn0 = s.htIn0 := rfl
@[simp] theorem raiseError_htIn1 (code : ErrCode) (g : OutGroups) : (raiseError code g s).htIn1 = s.htIn1 := rfl
@[simp] theorem raiseError_adctIn (code : ErrCode) (g : OutGroups) : (raiseError code g s).adctIn = s.adctIn := rfl
@[simp] theorem raiseError_adcpIn (code : ErrCode) (g : OutGroups) : (raiseError code g s).adcpIn = s.adcpIn := rfl
@[simp] theorem raiseError_cal (code : ErrCode) (g : OutGroups) : (raiseError code g s).cal = s.cal := rfl
@[simp] theorem raiseError_humRaw (code : ErrCode) (g : OutGroups) : (raiseError code g s).humRaw = s.humRaw := rfl
@[simp] theorem raiseError_htempRaw (code : ErrCode) (g : OutGroups) : (raiseError code g s).htempRaw = s.htempRaw := rfl
@[simp] theorem raiseError_ut (code : ErrCode) (g : OutGroups) : (raiseError code g s).ut = s.ut := rfl
@[simp] theorem raiseError_tfine (code : ErrCode) (g : OutGroups) : (raiseError code g s).tfine = s.tfine := rfl
@[simp] theorem raiseError_tout (code : ErrCode) (g : OutGroups) : (raiseError code g s).tout = s.tout := rfl
@[simp] theorem raiseError_up (code : ErrCode) (g : OutGroups) : (raiseError code g s).up = s.up := rfl
@[simp] theorem raiseError_pout (code : ErrCode) (g : OutGroups) : (raiseError code g s).pout = s.pout := rfl
@[simp] theorem raiseError_pending (code : ErrCode) (g : OutGroups) : (raiseError code g s).pending = s.pending := rfl
@[simp] theorem raiseError_reply (code : ErrCode) (g : OutGroups) : (raiseError code g s).reply = s.reply := rfl

/-! ## clearError -/

@[simp] theorem clearError_err : (clearError s).err = false := rfl
@[simp] theorem clearError_errcode : (clearError s).errcode = 0#4 := rfl
@[simp] theorem clearError_hin0V : (clearError s).hin0V = s.hin0V := rfl
@[simp] theorem clearError_hin1V : (clearError s).hin1V = s.hin1V := rfl
@[simp] theorem clearError_adctV : (clearError s).adctV = s.adctV := rfl
@[simp] theorem clearError_adcpV : (clearError s).adcpV = s.adcpV := rfl
@[simp] theorem clearError_houtV : (clearError s).houtV = s.houtV := rfl
@[simp] theorem clearError_toutV : (clearError s).toutV = s.toutV := rfl
@[simp] theorem clearError_poutV : (clearError s).poutV = s.poutV := rfl
@[simp] theorem clearError_calV : (clearError s).calV = s.calV := rfl
@[simp] theorem clearError_htIn0 : (clearError s).htIn0 = s.htIn0 := rfl
@[simp] theorem clearError_htIn1 : (clearError s).htIn1 = s.htIn1 := rfl
@[simp] theorem clearError_adctIn : (clearError s).adctIn = s.adctIn := rfl
@[simp] theorem clearError_adcpIn : (clearError s).adcpIn = s.adcpIn := rfl
@[simp] theorem clearError_cal : (clearError s).cal = s.cal := rfl
@[simp] theorem clearError_humRaw : (clearError s).humRaw = s.humRaw := rfl
@[simp] theorem clearError_htempRaw : (clearError s).htempRaw = s.htempRaw := rfl
@[simp] theorem clearError_ut : (clearError s).ut = s.ut := rfl
@[simp] theorem clearError_tfine : (clearError s).tfine = s.tfine := rfl
@[simp] theorem clearError_tout : (clearError s).tout = s.tout := rfl
@[simp] theorem clearError_up : (clearError s).up = s.up := rfl
@[simp] theorem clearError_pout : (clearError s).pout = s.pout := rfl
@[simp] theorem clearError_pending : (clearError s).pending = s.pending := rfl
@[simp] theorem clearError_reply : (clearError s).reply = s.reply := rfl

/-! ## resetRegisters -/

@[simp] theorem resetRegisters_err : (resetRegisters s).err = State.reset.err := rfl
@[simp] theorem resetRegisters_errcode : (resetRegisters s).errcode = State.reset.errcode := rfl
@[simp] theorem resetRegisters_hin0V : (resetRegisters s).hin0V = State.reset.hin0V := rfl
@[simp] theorem resetRegisters_hin1V : (resetRegisters s).hin1V = State.reset.hin1V := rfl
@[simp] theorem resetRegisters_adctV : (resetRegisters s).adctV = State.reset.adctV := rfl
@[simp] theorem resetRegisters_adcpV : (resetRegisters s).adcpV = State.reset.adcpV := rfl
@[simp] theorem resetRegisters_houtV : (resetRegisters s).houtV = State.reset.houtV := rfl
@[simp] theorem resetRegisters_toutV : (resetRegisters s).toutV = State.reset.toutV := rfl
@[simp] theorem resetRegisters_poutV : (resetRegisters s).poutV = State.reset.poutV := rfl
@[simp] theorem resetRegisters_calV : (resetRegisters s).calV = State.reset.calV := rfl
@[simp] theorem resetRegisters_htIn0 : (resetRegisters s).htIn0 = State.reset.htIn0 := rfl
@[simp] theorem resetRegisters_htIn1 : (resetRegisters s).htIn1 = State.reset.htIn1 := rfl
@[simp] theorem resetRegisters_adctIn : (resetRegisters s).adctIn = State.reset.adctIn := rfl
@[simp] theorem resetRegisters_adcpIn : (resetRegisters s).adcpIn = State.reset.adcpIn := rfl
@[simp] theorem resetRegisters_cal : (resetRegisters s).cal = State.reset.cal := rfl
@[simp] theorem resetRegisters_humRaw : (resetRegisters s).humRaw = State.reset.humRaw := rfl
@[simp] theorem resetRegisters_htempRaw : (resetRegisters s).htempRaw = State.reset.htempRaw := rfl
@[simp] theorem resetRegisters_ut : (resetRegisters s).ut = State.reset.ut := rfl
@[simp] theorem resetRegisters_tfine : (resetRegisters s).tfine = State.reset.tfine := rfl
@[simp] theorem resetRegisters_tout : (resetRegisters s).tout = State.reset.tout := rfl
@[simp] theorem resetRegisters_up : (resetRegisters s).up = State.reset.up := rfl
@[simp] theorem resetRegisters_pout : (resetRegisters s).pout = State.reset.pout := rfl
@[simp] theorem resetRegisters_pending : (resetRegisters s).pending = s.pending := rfl
@[simp] theorem resetRegisters_reply : (resetRegisters s).reply = s.reply := rfl

/-! ## beginEvent -/

@[simp] theorem beginEvent_err (rest : List PortEvent) : (beginEvent rest s).err = s.err := rfl
@[simp] theorem beginEvent_errcode (rest : List PortEvent) : (beginEvent rest s).errcode = s.errcode := rfl
@[simp] theorem beginEvent_hin0V (rest : List PortEvent) : (beginEvent rest s).hin0V = s.hin0V := rfl
@[simp] theorem beginEvent_hin1V (rest : List PortEvent) : (beginEvent rest s).hin1V = s.hin1V := rfl
@[simp] theorem beginEvent_adctV (rest : List PortEvent) : (beginEvent rest s).adctV = s.adctV := rfl
@[simp] theorem beginEvent_adcpV (rest : List PortEvent) : (beginEvent rest s).adcpV = s.adcpV := rfl
@[simp] theorem beginEvent_houtV (rest : List PortEvent) : (beginEvent rest s).houtV = s.houtV := rfl
@[simp] theorem beginEvent_toutV (rest : List PortEvent) : (beginEvent rest s).toutV = s.toutV := rfl
@[simp] theorem beginEvent_poutV (rest : List PortEvent) : (beginEvent rest s).poutV = s.poutV := rfl
@[simp] theorem beginEvent_calV (rest : List PortEvent) : (beginEvent rest s).calV = s.calV := rfl
@[simp] theorem beginEvent_htIn0 (rest : List PortEvent) : (beginEvent rest s).htIn0 = s.htIn0 := rfl
@[simp] theorem beginEvent_htIn1 (rest : List PortEvent) : (beginEvent rest s).htIn1 = s.htIn1 := rfl
@[simp] theorem beginEvent_adctIn (rest : List PortEvent) : (beginEvent rest s).adctIn = s.adctIn := rfl
@[simp] theorem beginEvent_adcpIn (rest : List PortEvent) : (beginEvent rest s).adcpIn = s.adcpIn := rfl
@[simp] theorem beginEvent_cal (rest : List PortEvent) : (beginEvent rest s).cal = s.cal := rfl
@[simp] theorem beginEvent_humRaw (rest : List PortEvent) : (beginEvent rest s).humRaw = s.humRaw := rfl
@[simp] theorem beginEvent_htempRaw (rest : List PortEvent) : (beginEvent rest s).htempRaw = s.htempRaw := rfl
@[simp] theorem beginEvent_ut (rest : List PortEvent) : (beginEvent rest s).ut = s.ut := rfl
@[simp] theorem beginEvent_tfine (rest : List PortEvent) : (beginEvent rest s).tfine = s.tfine := rfl
@[simp] theorem beginEvent_tout (rest : List PortEvent) : (beginEvent rest s).tout = s.tout := rfl
@[simp] theorem beginEvent_up (rest : List PortEvent) : (beginEvent rest s).up = s.up := rfl
@[simp] theorem beginEvent_pout (rest : List PortEvent) : (beginEvent rest s).pout = s.pout := rfl
@[simp] theorem beginEvent_pending (rest : List PortEvent) : (beginEvent rest s).pending = rest := rfl
@[simp] theorem beginEvent_reply (rest : List PortEvent) : (beginEvent rest s).reply = none := rfl

/-! ## answer -/

@[simp] theorem answer_err (v : Word) : (answer v s).err = s.err := rfl
@[simp] theorem answer_errcode (v : Word) : (answer v s).errcode = s.errcode := rfl
@[simp] theorem answer_hin0V (v : Word) : (answer v s).hin0V = s.hin0V := rfl
@[simp] theorem answer_hin1V (v : Word) : (answer v s).hin1V = s.hin1V := rfl
@[simp] theorem answer_adctV (v : Word) : (answer v s).adctV = s.adctV := rfl
@[simp] theorem answer_adcpV (v : Word) : (answer v s).adcpV = s.adcpV := rfl
@[simp] theorem answer_houtV (v : Word) : (answer v s).houtV = s.houtV := rfl
@[simp] theorem answer_toutV (v : Word) : (answer v s).toutV = s.toutV := rfl
@[simp] theorem answer_poutV (v : Word) : (answer v s).poutV = s.poutV := rfl
@[simp] theorem answer_calV (v : Word) : (answer v s).calV = s.calV := rfl
@[simp] theorem answer_htIn0 (v : Word) : (answer v s).htIn0 = s.htIn0 := rfl
@[simp] theorem answer_htIn1 (v : Word) : (answer v s).htIn1 = s.htIn1 := rfl
@[simp] theorem answer_adctIn (v : Word) : (answer v s).adctIn = s.adctIn := rfl
@[simp] theorem answer_adcpIn (v : Word) : (answer v s).adcpIn = s.adcpIn := rfl
@[simp] theorem answer_cal (v : Word) : (answer v s).cal = s.cal := rfl
@[simp] theorem answer_humRaw (v : Word) : (answer v s).humRaw = s.humRaw := rfl
@[simp] theorem answer_htempRaw (v : Word) : (answer v s).htempRaw = s.htempRaw := rfl
@[simp] theorem answer_ut (v : Word) : (answer v s).ut = s.ut := rfl
@[simp] theorem answer_tfine (v : Word) : (answer v s).tfine = s.tfine := rfl
@[simp] theorem answer_tout (v : Word) : (answer v s).tout = s.tout := rfl
@[simp] theorem answer_up (v : Word) : (answer v s).up = s.up := rfl
@[simp] theorem answer_pout (v : Word) : (answer v s).pout = s.pout := rfl
@[simp] theorem answer_pending (v : Word) : (answer v s).pending = s.pending := rfl
@[simp] theorem answer_reply (v : Word) : (answer v s).reply = some v := rfl

/-! ## writeHtIn0 -/

@[simp] theorem writeHtIn0_err (v : Word) : (writeHtIn0 v s).err = s.err := rfl
@[simp] theorem writeHtIn0_errcode (v : Word) : (writeHtIn0 v s).errcode = s.errcode := rfl
@[simp] theorem writeHtIn0_hin0V (v : Word) : (writeHtIn0 v s).hin0V = true := rfl
@[simp] theorem writeHtIn0_hin1V (v : Word) : (writeHtIn0 v s).hin1V = s.hin1V := rfl
@[simp] theorem writeHtIn0_adctV (v : Word) : (writeHtIn0 v s).adctV = s.adctV := rfl
@[simp] theorem writeHtIn0_adcpV (v : Word) : (writeHtIn0 v s).adcpV = s.adcpV := rfl
@[simp] theorem writeHtIn0_houtV (v : Word) : (writeHtIn0 v s).houtV = false := rfl
@[simp] theorem writeHtIn0_toutV (v : Word) : (writeHtIn0 v s).toutV = s.toutV := rfl
@[simp] theorem writeHtIn0_poutV (v : Word) : (writeHtIn0 v s).poutV = s.poutV := rfl
@[simp] theorem writeHtIn0_calV (v : Word) : (writeHtIn0 v s).calV = s.calV := rfl
@[simp] theorem writeHtIn0_htIn0 (v : Word) : (writeHtIn0 v s).htIn0 = v := rfl
@[simp] theorem writeHtIn0_htIn1 (v : Word) : (writeHtIn0 v s).htIn1 = s.htIn1 := rfl
@[simp] theorem writeHtIn0_adctIn (v : Word) : (writeHtIn0 v s).adctIn = s.adctIn := rfl
@[simp] theorem writeHtIn0_adcpIn (v : Word) : (writeHtIn0 v s).adcpIn = s.adcpIn := rfl
@[simp] theorem writeHtIn0_cal (v : Word) : (writeHtIn0 v s).cal = s.cal := rfl
@[simp] theorem writeHtIn0_humRaw (v : Word) : (writeHtIn0 v s).humRaw = s.humRaw := rfl
@[simp] theorem writeHtIn0_htempRaw (v : Word) : (writeHtIn0 v s).htempRaw = s.htempRaw := rfl
@[simp] theorem writeHtIn0_ut (v : Word) : (writeHtIn0 v s).ut = s.ut := rfl
@[simp] theorem writeHtIn0_tfine (v : Word) : (writeHtIn0 v s).tfine = s.tfine := rfl
@[simp] theorem writeHtIn0_tout (v : Word) : (writeHtIn0 v s).tout = s.tout := rfl
@[simp] theorem writeHtIn0_up (v : Word) : (writeHtIn0 v s).up = s.up := rfl
@[simp] theorem writeHtIn0_pout (v : Word) : (writeHtIn0 v s).pout = s.pout := rfl
@[simp] theorem writeHtIn0_pending (v : Word) : (writeHtIn0 v s).pending = s.pending := rfl
@[simp] theorem writeHtIn0_reply (v : Word) : (writeHtIn0 v s).reply = s.reply := rfl

/-! ## writeHtIn1 -/

@[simp] theorem writeHtIn1_err (v : Word) : (writeHtIn1 v s).err = s.err := rfl
@[simp] theorem writeHtIn1_errcode (v : Word) : (writeHtIn1 v s).errcode = s.errcode := rfl
@[simp] theorem writeHtIn1_hin0V (v : Word) : (writeHtIn1 v s).hin0V = s.hin0V := rfl
@[simp] theorem writeHtIn1_hin1V (v : Word) : (writeHtIn1 v s).hin1V = true := rfl
@[simp] theorem writeHtIn1_adctV (v : Word) : (writeHtIn1 v s).adctV = s.adctV := rfl
@[simp] theorem writeHtIn1_adcpV (v : Word) : (writeHtIn1 v s).adcpV = s.adcpV := rfl
@[simp] theorem writeHtIn1_houtV (v : Word) : (writeHtIn1 v s).houtV = false := rfl
@[simp] theorem writeHtIn1_toutV (v : Word) : (writeHtIn1 v s).toutV = s.toutV := rfl
@[simp] theorem writeHtIn1_poutV (v : Word) : (writeHtIn1 v s).poutV = s.poutV := rfl
@[simp] theorem writeHtIn1_calV (v : Word) : (writeHtIn1 v s).calV = s.calV := rfl
@[simp] theorem writeHtIn1_htIn0 (v : Word) : (writeHtIn1 v s).htIn0 = s.htIn0 := rfl
@[simp] theorem writeHtIn1_htIn1 (v : Word) : (writeHtIn1 v s).htIn1 = v.extractLsb' 0 24 := rfl
@[simp] theorem writeHtIn1_adctIn (v : Word) : (writeHtIn1 v s).adctIn = s.adctIn := rfl
@[simp] theorem writeHtIn1_adcpIn (v : Word) : (writeHtIn1 v s).adcpIn = s.adcpIn := rfl
@[simp] theorem writeHtIn1_cal (v : Word) : (writeHtIn1 v s).cal = s.cal := rfl
@[simp] theorem writeHtIn1_humRaw (v : Word) : (writeHtIn1 v s).humRaw = s.humRaw := rfl
@[simp] theorem writeHtIn1_htempRaw (v : Word) : (writeHtIn1 v s).htempRaw = s.htempRaw := rfl
@[simp] theorem writeHtIn1_ut (v : Word) : (writeHtIn1 v s).ut = s.ut := rfl
@[simp] theorem writeHtIn1_tfine (v : Word) : (writeHtIn1 v s).tfine = s.tfine := rfl
@[simp] theorem writeHtIn1_tout (v : Word) : (writeHtIn1 v s).tout = s.tout := rfl
@[simp] theorem writeHtIn1_up (v : Word) : (writeHtIn1 v s).up = s.up := rfl
@[simp] theorem writeHtIn1_pout (v : Word) : (writeHtIn1 v s).pout = s.pout := rfl
@[simp] theorem writeHtIn1_pending (v : Word) : (writeHtIn1 v s).pending = s.pending := rfl
@[simp] theorem writeHtIn1_reply (v : Word) : (writeHtIn1 v s).reply = s.reply := rfl

/-! ## writeAdctIn -/

@[simp] theorem writeAdctIn_err (v : Word) : (writeAdctIn v s).err = s.err := rfl
@[simp] theorem writeAdctIn_errcode (v : Word) : (writeAdctIn v s).errcode = s.errcode := rfl
@[simp] theorem writeAdctIn_hin0V (v : Word) : (writeAdctIn v s).hin0V = s.hin0V := rfl
@[simp] theorem writeAdctIn_hin1V (v : Word) : (writeAdctIn v s).hin1V = s.hin1V := rfl
@[simp] theorem writeAdctIn_adctV (v : Word) : (writeAdctIn v s).adctV = true := rfl
@[simp] theorem writeAdctIn_adcpV (v : Word) : (writeAdctIn v s).adcpV = s.adcpV := rfl
@[simp] theorem writeAdctIn_houtV (v : Word) : (writeAdctIn v s).houtV = s.houtV := rfl
@[simp] theorem writeAdctIn_toutV (v : Word) : (writeAdctIn v s).toutV = false := rfl
@[simp] theorem writeAdctIn_poutV (v : Word) : (writeAdctIn v s).poutV = false := rfl
@[simp] theorem writeAdctIn_calV (v : Word) : (writeAdctIn v s).calV = s.calV := rfl
@[simp] theorem writeAdctIn_htIn0 (v : Word) : (writeAdctIn v s).htIn0 = s.htIn0 := rfl
@[simp] theorem writeAdctIn_htIn1 (v : Word) : (writeAdctIn v s).htIn1 = s.htIn1 := rfl
@[simp] theorem writeAdctIn_adctIn (v : Word) : (writeAdctIn v s).adctIn = v.extractLsb' 0 24 := rfl
@[simp] theorem writeAdctIn_adcpIn (v : Word) : (writeAdctIn v s).adcpIn = s.adcpIn := rfl
@[simp] theorem writeAdctIn_cal (v : Word) : (writeAdctIn v s).cal = s.cal := rfl
@[simp] theorem writeAdctIn_humRaw (v : Word) : (writeAdctIn v s).humRaw = s.humRaw := rfl
@[simp] theorem writeAdctIn_htempRaw (v : Word) : (writeAdctIn v s).htempRaw = s.htempRaw := rfl
@[simp] theorem writeAdctIn_ut (v : Word) : (writeAdctIn v s).ut = s.ut := rfl
@[simp] theorem writeAdctIn_tfine (v : Word) : (writeAdctIn v s).tfine = s.tfine := rfl
@[simp] theorem writeAdctIn_tout (v : Word) : (writeAdctIn v s).tout = s.tout := rfl
@[simp] theorem writeAdctIn_up (v : Word) : (writeAdctIn v s).up = s.up := rfl
@[simp] theorem writeAdctIn_pout (v : Word) : (writeAdctIn v s).pout = s.pout := rfl
@[simp] theorem writeAdctIn_pending (v : Word) : (writeAdctIn v s).pending = s.pending := rfl
@[simp] theorem writeAdctIn_reply (v : Word) : (writeAdctIn v s).reply = s.reply := rfl

/-! ## writeAdcpIn -/

@[simp] theorem writeAdcpIn_err (v : Word) : (writeAdcpIn v s).err = s.err := rfl
@[simp] theorem writeAdcpIn_errcode (v : Word) : (writeAdcpIn v s).errcode = s.errcode := rfl
@[simp] theorem writeAdcpIn_hin0V (v : Word) : (writeAdcpIn v s).hin0V = s.hin0V := rfl
@[simp] theorem writeAdcpIn_hin1V (v : Word) : (writeAdcpIn v s).hin1V = s.hin1V := rfl
@[simp] theorem writeAdcpIn_adctV (v : Word) : (writeAdcpIn v s).adctV = s.adctV := rfl
@[simp] theorem writeAdcpIn_adcpV (v : Word) : (writeAdcpIn v s).adcpV = true := rfl
@[simp] theorem writeAdcpIn_houtV (v : Word) : (writeAdcpIn v s).houtV = s.houtV := rfl
@[simp] theorem writeAdcpIn_toutV (v : Word) : (writeAdcpIn v s).toutV = s.toutV := rfl
@[simp] theorem writeAdcpIn_poutV (v : Word) : (writeAdcpIn v s).poutV = false := rfl
@[simp] theorem writeAdcpIn_calV (v : Word) : (writeAdcpIn v s).calV = s.calV := rfl
@[simp] theorem writeAdcpIn_htIn0 (v : Word) : (writeAdcpIn v s).htIn0 = s.htIn0 := rfl
@[simp] theorem writeAdcpIn_htIn1 (v : Word) : (writeAdcpIn v s).htIn1 = s.htIn1 := rfl
@[simp] theorem writeAdcpIn_adctIn (v : Word) : (writeAdcpIn v s).adctIn = s.adctIn := rfl
@[simp] theorem writeAdcpIn_adcpIn (v : Word) : (writeAdcpIn v s).adcpIn = v.extractLsb' 0 24 := rfl
@[simp] theorem writeAdcpIn_cal (v : Word) : (writeAdcpIn v s).cal = s.cal := rfl
@[simp] theorem writeAdcpIn_humRaw (v : Word) : (writeAdcpIn v s).humRaw = s.humRaw := rfl
@[simp] theorem writeAdcpIn_htempRaw (v : Word) : (writeAdcpIn v s).htempRaw = s.htempRaw := rfl
@[simp] theorem writeAdcpIn_ut (v : Word) : (writeAdcpIn v s).ut = s.ut := rfl
@[simp] theorem writeAdcpIn_tfine (v : Word) : (writeAdcpIn v s).tfine = s.tfine := rfl
@[simp] theorem writeAdcpIn_tout (v : Word) : (writeAdcpIn v s).tout = s.tout := rfl
@[simp] theorem writeAdcpIn_up (v : Word) : (writeAdcpIn v s).up = s.up := rfl
@[simp] theorem writeAdcpIn_pout (v : Word) : (writeAdcpIn v s).pout = s.pout := rfl
@[simp] theorem writeAdcpIn_pending (v : Word) : (writeAdcpIn v s).pending = s.pending := rfl
@[simp] theorem writeAdcpIn_reply (v : Word) : (writeAdcpIn v s).reply = s.reply := rfl

/-! ## writeCal -/

@[simp] theorem writeCal_err (k : Fin 12) (v : Word) : (writeCal k v s).err = s.err := rfl
@[simp] theorem writeCal_errcode (k : Fin 12) (v : Word) : (writeCal k v s).errcode = s.errcode := rfl
@[simp] theorem writeCal_hin0V (k : Fin 12) (v : Word) : (writeCal k v s).hin0V = s.hin0V := rfl
@[simp] theorem writeCal_hin1V (k : Fin 12) (v : Word) : (writeCal k v s).hin1V = s.hin1V := rfl
@[simp] theorem writeCal_adctV (k : Fin 12) (v : Word) : (writeCal k v s).adctV = s.adctV := rfl
@[simp] theorem writeCal_adcpV (k : Fin 12) (v : Word) : (writeCal k v s).adcpV = s.adcpV := rfl
@[simp] theorem writeCal_houtV (k : Fin 12) (v : Word) : (writeCal k v s).houtV = s.houtV := rfl
@[simp] theorem writeCal_toutV (k : Fin 12) (v : Word) : (writeCal k v s).toutV = (s.toutV && !decide (k.val < 3)) := rfl
@[simp] theorem writeCal_poutV (k : Fin 12) (v : Word) : (writeCal k v s).poutV = false := rfl
@[simp] theorem writeCal_calV (k : Fin 12) (v : Word) : (writeCal k v s).calV = (s.calV ||| BitVec.twoPow 12 k) := rfl
@[simp] theorem writeCal_htIn0 (k : Fin 12) (v : Word) : (writeCal k v s).htIn0 = s.htIn0 := rfl
@[simp] theorem writeCal_htIn1 (k : Fin 12) (v : Word) : (writeCal k v s).htIn1 = s.htIn1 := rfl
@[simp] theorem writeCal_adctIn (k : Fin 12) (v : Word) : (writeCal k v s).adctIn = s.adctIn := rfl
@[simp] theorem writeCal_adcpIn (k : Fin 12) (v : Word) : (writeCal k v s).adcpIn = s.adcpIn := rfl
@[simp] theorem writeCal_cal (k : Fin 12) (v : Word) : (writeCal k v s).cal = s.cal.set k (v.extractLsb' 0 16) := rfl
@[simp] theorem writeCal_humRaw (k : Fin 12) (v : Word) : (writeCal k v s).humRaw = s.humRaw := rfl
@[simp] theorem writeCal_htempRaw (k : Fin 12) (v : Word) : (writeCal k v s).htempRaw = s.htempRaw := rfl
@[simp] theorem writeCal_ut (k : Fin 12) (v : Word) : (writeCal k v s).ut = s.ut := rfl
@[simp] theorem writeCal_tfine (k : Fin 12) (v : Word) : (writeCal k v s).tfine = s.tfine := rfl
@[simp] theorem writeCal_tout (k : Fin 12) (v : Word) : (writeCal k v s).tout = s.tout := rfl
@[simp] theorem writeCal_up (k : Fin 12) (v : Word) : (writeCal k v s).up = s.up := rfl
@[simp] theorem writeCal_pout (k : Fin 12) (v : Word) : (writeCal k v s).pout = s.pout := rfl
@[simp] theorem writeCal_pending (k : Fin 12) (v : Word) : (writeCal k v s).pending = s.pending := rfl
@[simp] theorem writeCal_reply (k : Fin 12) (v : Word) : (writeCal k v s).reply = s.reply := rfl

/-! ## commitHumidity -/

@[simp] theorem commitHumidity_err (h t : Count) : (commitHumidity h t s).err = s.err := rfl
@[simp] theorem commitHumidity_errcode (h t : Count) : (commitHumidity h t s).errcode = s.errcode := rfl
@[simp] theorem commitHumidity_hin0V (h t : Count) : (commitHumidity h t s).hin0V = s.hin0V := rfl
@[simp] theorem commitHumidity_hin1V (h t : Count) : (commitHumidity h t s).hin1V = s.hin1V := rfl
@[simp] theorem commitHumidity_adctV (h t : Count) : (commitHumidity h t s).adctV = s.adctV := rfl
@[simp] theorem commitHumidity_adcpV (h t : Count) : (commitHumidity h t s).adcpV = s.adcpV := rfl
@[simp] theorem commitHumidity_houtV (h t : Count) : (commitHumidity h t s).houtV = true := rfl
@[simp] theorem commitHumidity_toutV (h t : Count) : (commitHumidity h t s).toutV = s.toutV := rfl
@[simp] theorem commitHumidity_poutV (h t : Count) : (commitHumidity h t s).poutV = s.poutV := rfl
@[simp] theorem commitHumidity_calV (h t : Count) : (commitHumidity h t s).calV = s.calV := rfl
@[simp] theorem commitHumidity_htIn0 (h t : Count) : (commitHumidity h t s).htIn0 = s.htIn0 := rfl
@[simp] theorem commitHumidity_htIn1 (h t : Count) : (commitHumidity h t s).htIn1 = s.htIn1 := rfl
@[simp] theorem commitHumidity_adctIn (h t : Count) : (commitHumidity h t s).adctIn = s.adctIn := rfl
@[simp] theorem commitHumidity_adcpIn (h t : Count) : (commitHumidity h t s).adcpIn = s.adcpIn := rfl
@[simp] theorem commitHumidity_cal (h t : Count) : (commitHumidity h t s).cal = s.cal := rfl
@[simp] theorem commitHumidity_humRaw (h t : Count) : (commitHumidity h t s).humRaw = h := rfl
@[simp] theorem commitHumidity_htempRaw (h t : Count) : (commitHumidity h t s).htempRaw = t := rfl
@[simp] theorem commitHumidity_ut (h t : Count) : (commitHumidity h t s).ut = s.ut := rfl
@[simp] theorem commitHumidity_tfine (h t : Count) : (commitHumidity h t s).tfine = s.tfine := rfl
@[simp] theorem commitHumidity_tout (h t : Count) : (commitHumidity h t s).tout = s.tout := rfl
@[simp] theorem commitHumidity_up (h t : Count) : (commitHumidity h t s).up = s.up := rfl
@[simp] theorem commitHumidity_pout (h t : Count) : (commitHumidity h t s).pout = s.pout := rfl
@[simp] theorem commitHumidity_pending (h t : Count) : (commitHumidity h t s).pending = s.pending := rfl
@[simp] theorem commitHumidity_reply (h t : Count) : (commitHumidity h t s).reply = s.reply := rfl

/-! ## commitStage1 -/

@[simp] theorem commitStage1_err (a : Count) (f t : Word) : (commitStage1 a f t s).err = s.err := rfl
@[simp] theorem commitStage1_errcode (a : Count) (f t : Word) : (commitStage1 a f t s).errcode = s.errcode := rfl
@[simp] theorem commitStage1_hin0V (a : Count) (f t : Word) : (commitStage1 a f t s).hin0V = s.hin0V := rfl
@[simp] theorem commitStage1_hin1V (a : Count) (f t : Word) : (commitStage1 a f t s).hin1V = s.hin1V := rfl
@[simp] theorem commitStage1_adctV (a : Count) (f t : Word) : (commitStage1 a f t s).adctV = s.adctV := rfl
@[simp] theorem commitStage1_adcpV (a : Count) (f t : Word) : (commitStage1 a f t s).adcpV = s.adcpV := rfl
@[simp] theorem commitStage1_houtV (a : Count) (f t : Word) : (commitStage1 a f t s).houtV = s.houtV := rfl
@[simp] theorem commitStage1_toutV (a : Count) (f t : Word) : (commitStage1 a f t s).toutV = true := rfl
@[simp] theorem commitStage1_poutV (a : Count) (f t : Word) : (commitStage1 a f t s).poutV = s.poutV := rfl
@[simp] theorem commitStage1_calV (a : Count) (f t : Word) : (commitStage1 a f t s).calV = s.calV := rfl
@[simp] theorem commitStage1_htIn0 (a : Count) (f t : Word) : (commitStage1 a f t s).htIn0 = s.htIn0 := rfl
@[simp] theorem commitStage1_htIn1 (a : Count) (f t : Word) : (commitStage1 a f t s).htIn1 = s.htIn1 := rfl
@[simp] theorem commitStage1_adctIn (a : Count) (f t : Word) : (commitStage1 a f t s).adctIn = s.adctIn := rfl
@[simp] theorem commitStage1_adcpIn (a : Count) (f t : Word) : (commitStage1 a f t s).adcpIn = s.adcpIn := rfl
@[simp] theorem commitStage1_cal (a : Count) (f t : Word) : (commitStage1 a f t s).cal = s.cal := rfl
@[simp] theorem commitStage1_humRaw (a : Count) (f t : Word) : (commitStage1 a f t s).humRaw = s.humRaw := rfl
@[simp] theorem commitStage1_htempRaw (a : Count) (f t : Word) : (commitStage1 a f t s).htempRaw = s.htempRaw := rfl
@[simp] theorem commitStage1_ut (a : Count) (f t : Word) : (commitStage1 a f t s).ut = a := rfl
@[simp] theorem commitStage1_tfine (a : Count) (f t : Word) : (commitStage1 a f t s).tfine = f := rfl
@[simp] theorem commitStage1_tout (a : Count) (f t : Word) : (commitStage1 a f t s).tout = t := rfl
@[simp] theorem commitStage1_up (a : Count) (f t : Word) : (commitStage1 a f t s).up = s.up := rfl
@[simp] theorem commitStage1_pout (a : Count) (f t : Word) : (commitStage1 a f t s).pout = s.pout := rfl
@[simp] theorem commitStage1_pending (a : Count) (f t : Word) : (commitStage1 a f t s).pending = s.pending := rfl
@[simp] theorem commitStage1_reply (a : Count) (f t : Word) : (commitStage1 a f t s).reply = s.reply := rfl

/-! ## commitStage2 -/

@[simp] theorem commitStage2_err (a : Count) (p : Word) : (commitStage2 a p s).err = s.err := rfl
@[simp] theorem commitStage2_errcode (a : Count) (p : Word) : (commitStage2 a p s).errcode = s.errcode := rfl
@[simp] theorem commitStage2_hin0V (a : Count) (p : Word) : (commitStage2 a p s).hin0V = s.hin0V := rfl
@[simp] theorem commitStage2_hin1V (a : Count) (p : Word) : (commitStage2 a p s).hin1V = s.hin1V := rfl
@[simp] theorem commitStage2_adctV (a : Count) (p : Word) : (commitStage2 a p s).adctV = s.adctV := rfl
@[simp] theorem commitStage2_adcpV (a : Count) (p : Word) : (commitStage2 a p s).adcpV = s.adcpV := rfl
@[simp] theorem commitStage2_houtV (a : Count) (p : Word) : (commitStage2 a p s).houtV = s.houtV := rfl
@[simp] theorem commitStage2_toutV (a : Count) (p : Word) : (commitStage2 a p s).toutV = s.toutV := rfl
@[simp] theorem commitStage2_poutV (a : Count) (p : Word) : (commitStage2 a p s).poutV = true := rfl
@[simp] theorem commitStage2_calV (a : Count) (p : Word) : (commitStage2 a p s).calV = s.calV := rfl
@[simp] theorem commitStage2_htIn0 (a : Count) (p : Word) : (commitStage2 a p s).htIn0 = s.htIn0 := rfl
@[simp] theorem commitStage2_htIn1 (a : Count) (p : Word) : (commitStage2 a p s).htIn1 = s.htIn1 := rfl
@[simp] theorem commitStage2_adctIn (a : Count) (p : Word) : (commitStage2 a p s).adctIn = s.adctIn := rfl
@[simp] theorem commitStage2_adcpIn (a : Count) (p : Word) : (commitStage2 a p s).adcpIn = s.adcpIn := rfl
@[simp] theorem commitStage2_cal (a : Count) (p : Word) : (commitStage2 a p s).cal = s.cal := rfl
@[simp] theorem commitStage2_humRaw (a : Count) (p : Word) : (commitStage2 a p s).humRaw = s.humRaw := rfl
@[simp] theorem commitStage2_htempRaw (a : Count) (p : Word) : (commitStage2 a p s).htempRaw = s.htempRaw := rfl
@[simp] theorem commitStage2_ut (a : Count) (p : Word) : (commitStage2 a p s).ut = s.ut := rfl
@[simp] theorem commitStage2_tfine (a : Count) (p : Word) : (commitStage2 a p s).tfine = s.tfine := rfl
@[simp] theorem commitStage2_tout (a : Count) (p : Word) : (commitStage2 a p s).tout = s.tout := rfl
@[simp] theorem commitStage2_up (a : Count) (p : Word) : (commitStage2 a p s).up = a := rfl
@[simp] theorem commitStage2_pout (a : Count) (p : Word) : (commitStage2 a p s).pout = p := rfl
@[simp] theorem commitStage2_pending (a : Count) (p : Word) : (commitStage2 a p s).pending = s.pending := rfl
@[simp] theorem commitStage2_reply (a : Count) (p : Word) : (commitStage2 a p s).reply = s.reply := rfl

/-! ## clearCalibration -/

@[simp] theorem clearCalibration_err : (clearCalibration s).err = s.err := rfl
@[simp] theorem clearCalibration_errcode : (clearCalibration s).errcode = s.errcode := rfl
@[simp] theorem clearCalibration_hin0V : (clearCalibration s).hin0V = s.hin0V := rfl
@[simp] theorem clearCalibration_hin1V : (clearCalibration s).hin1V = s.hin1V := rfl
@[simp] theorem clearCalibration_adctV : (clearCalibration s).adctV = s.adctV := rfl
@[simp] theorem clearCalibration_adcpV : (clearCalibration s).adcpV = s.adcpV := rfl
@[simp] theorem clearCalibration_houtV : (clearCalibration s).houtV = s.houtV := rfl
@[simp] theorem clearCalibration_toutV : (clearCalibration s).toutV = false := rfl
@[simp] theorem clearCalibration_poutV : (clearCalibration s).poutV = false := rfl
@[simp] theorem clearCalibration_calV : (clearCalibration s).calV = 0#12 := rfl
@[simp] theorem clearCalibration_htIn0 : (clearCalibration s).htIn0 = s.htIn0 := rfl
@[simp] theorem clearCalibration_htIn1 : (clearCalibration s).htIn1 = s.htIn1 := rfl
@[simp] theorem clearCalibration_adctIn : (clearCalibration s).adctIn = s.adctIn := rfl
@[simp] theorem clearCalibration_adcpIn : (clearCalibration s).adcpIn = s.adcpIn := rfl
@[simp] theorem clearCalibration_cal : (clearCalibration s).cal = s.cal := rfl
@[simp] theorem clearCalibration_humRaw : (clearCalibration s).humRaw = s.humRaw := rfl
@[simp] theorem clearCalibration_htempRaw : (clearCalibration s).htempRaw = s.htempRaw := rfl
@[simp] theorem clearCalibration_ut : (clearCalibration s).ut = s.ut := rfl
@[simp] theorem clearCalibration_tfine : (clearCalibration s).tfine = s.tfine := rfl
@[simp] theorem clearCalibration_tout : (clearCalibration s).tout = s.tout := rfl
@[simp] theorem clearCalibration_up : (clearCalibration s).up = s.up := rfl
@[simp] theorem clearCalibration_pout : (clearCalibration s).pout = s.pout := rfl
@[simp] theorem clearCalibration_pending : (clearCalibration s).pending = s.pending := rfl
@[simp] theorem clearCalibration_reply : (clearCalibration s).reply = s.reply := rfl

/-! ## reset -/

@[simp] theorem reset_err : State.reset.err = false := rfl
@[simp] theorem reset_errcode : State.reset.errcode = 0#4 := rfl
@[simp] theorem reset_hin0V : State.reset.hin0V = false := rfl
@[simp] theorem reset_hin1V : State.reset.hin1V = false := rfl
@[simp] theorem reset_adctV : State.reset.adctV = false := rfl
@[simp] theorem reset_adcpV : State.reset.adcpV = false := rfl
@[simp] theorem reset_houtV : State.reset.houtV = false := rfl
@[simp] theorem reset_toutV : State.reset.toutV = false := rfl
@[simp] theorem reset_poutV : State.reset.poutV = false := rfl
@[simp] theorem reset_calV : State.reset.calV = 0#12 := rfl
@[simp] theorem reset_htIn0 : State.reset.htIn0 = 0#32 := rfl
@[simp] theorem reset_htIn1 : State.reset.htIn1 = 0#24 := rfl
@[simp] theorem reset_adctIn : State.reset.adctIn = 0#24 := rfl
@[simp] theorem reset_adcpIn : State.reset.adcpIn = 0#24 := rfl
@[simp] theorem reset_cal : State.reset.cal = Vector.replicate 12 0#16 := rfl
@[simp] theorem reset_humRaw : State.reset.humRaw = 0#20 := rfl
@[simp] theorem reset_htempRaw : State.reset.htempRaw = 0#20 := rfl
@[simp] theorem reset_ut : State.reset.ut = 0#20 := rfl
@[simp] theorem reset_tfine : State.reset.tfine = 0#32 := rfl
@[simp] theorem reset_tout : State.reset.tout = 0#32 := rfl
@[simp] theorem reset_up : State.reset.up = 0#20 := rfl
@[simp] theorem reset_pout : State.reset.pout = 0#32 := rfl
@[simp] theorem reset_pending : State.reset.pending = [] := rfl
@[simp] theorem reset_reply : State.reset.reply = none := rfl

end Sys2Proof.Machine
end

