-- ==== Sys2Proof/Laws/Ops.lean ====
section
/-! SUPPORT. For each shared operation, what it can do, said once: proofs cite these and do not unfold the
operation. -/

namespace Sys2Proof.Machine

/-! ## The forms of a command -/

theorem gated_of_err {e : State → State} {s : State} (h : s.err = true) : gated e s = s := by
  simp [gated, h]

theorem gated_of_no_err {e : State → State} {s : State} (h : s.err = false) : gated e s = e s := by
  simp [gated, h]

theorem gated_cases (e : State → State) (s : State) :
    (s.err = true ∧ gated e s = s) ∨ (s.err = false ∧ gated e s = e s) := by
  cases h : s.err
  · exact .inr ⟨rfl, gated_of_no_err h⟩
  · exact .inl ⟨rfl, gated_of_err h⟩

theorem committing_ok {g : OutGroups} {b : State → Except ErrCode State} {s t : State} (h : b s = .ok t) :
    committing g b s = t := by simp [committing, h]

theorem committing_error {g : OutGroups} {b : State → Except ErrCode State} {s : State} {c : ErrCode}
    (h : b s = .error c) : committing g b s = raiseError c g s := by simp [committing, h]

theorem committing_cases (g : OutGroups) (b : State → Except ErrCode State) (s : State) :
    (∃ t, b s = .ok t ∧ committing g b s = t) ∨
      (∃ c, b s = .error c ∧ committing g b s = raiseError c g s) := by
  cases h : b s with
  | ok t => exact .inl ⟨t, rfl, committing_ok h⟩
  | error c => exact .inr ⟨c, rfl, committing_error h⟩

/-! ## The bodies of the commands that can fail -/

theorem dechtBody_cases (s : State) :
    ((s.hin0V = false ∨ s.hin1V = false) ∧ dechtBody s = .error .inputMissing) ∨
    (s.hin0V = true ∧ s.hin1V = true ∧ dechtBody s =
      .ok (commitHumidity (humidityField (htSequence s)) (temperatureField (htSequence s)) s)) := by
  by_cases h : s.hin0V = false ∨ s.hin1V = false
  · exact .inl ⟨h, by simp [dechtBody, h]⟩
  · rw [not_or, Bool.not_eq_false, Bool.not_eq_false] at h
    exact .inr ⟨h.1, h.2, by simp [dechtBody, h]⟩

theorem comptBody_cases (s : State) :
    (s.adctV = false ∧ comptBody s = .error .inputMissing) ∨
    (s.adctV = true ∧ stage1Loaded s = false ∧ comptBody s = .error .calMissing) ∨
    (s.adctV = true ∧ stage1Loaded s = true ∧ comptBody s = .ok (commitTemperature (stage1Of s) s)) := by
  cases h1 : s.adctV <;> cases h2 : stage1Loaded s <;> simp [comptBody, h1, h2]

theorem comppBody_cases (s : State) :
    (s.adcpV = false ∧ comppBody s = .error .inputMissing) ∨
    (s.adcpV = true ∧ stage2Loaded s = false ∧ comppBody s = .error .calMissing) ∨
    (s.adcpV = true ∧ stage2Loaded s = true ∧ s.toutV = false ∧ comppBody s = .error .tfineMissing) ∨
    (s.adcpV = true ∧ stage2Loaded s = true ∧ s.toutV = true ∧
      ((∃ c, pressureResult (adcP s).toNat (tFineOperand s) (pressureCoefs s) = .error c ∧
          comppBody s = .error c) ∨
        ∃ p, pressureResult (adcP s).toNat (tFineOperand s) (pressureCoefs s) = .ok p ∧
          comppBody s = .ok (commitStage2 (adcP s) p s))) := by
  cases h1 : s.adcpV <;> cases h2 : stage2Loaded s <;> cases h3 : s.toutV <;>
    cases h4 : pressureResult (adcP s).toNat (tFineOperand s) (pressureCoefs s) <;>
    simp [comppBody, h1, h2, h3, h4]

theorem comptpBody_cases (s : State) :
    (s.adctV = false ∧ comptpBody s = .error .inputMissing) ∨
    (s.adctV = true ∧ stage1Loaded s = false ∧ comptpBody s = .error .calMissing) ∨
    (s.adctV = true ∧ stage1Loaded s = true ∧ s.adcpV = false ∧ comptpBody s = .error .inputMissing) ∨
    (s.adctV = true ∧ stage1Loaded s = true ∧ s.adcpV = true ∧ stage2Loaded s = false ∧
      comptpBody s = .error .calMissing) ∨
    (s.adctV = true ∧ stage1Loaded s = true ∧ s.adcpV = true ∧ stage2Loaded s = true ∧
      ((∃ c, pressureResult (adcP s).toNat (stage1Of s).tFine (pressureCoefs s) = .error c ∧
          comptpBody s = .error c) ∨
        ∃ p, pressureResult (adcP s).toNat (stage1Of s).tFine (pressureCoefs s) = .ok p ∧
          comptpBody s = .ok (commitStage2 (adcP s) p (commitTemperature (stage1Of s) s)))) := by
  cases h1 : s.adctV <;> cases h2 : stage1Loaded s <;> cases h3 : s.adcpV <;> cases h4 : stage2Loaded s <;>
    cases h5 : pressureResult (adcP s).toNat (stage1Of s).tFine (pressureCoefs s) <;>
    simp [comptpBody, h1, h2, h3, h4, h5]

/-! ## The pressure a command stores -/

theorem pressureResult_ok {adc f : Int} {c : PressureCoefs} {p : Word} (h : pressureResult adc f c = .ok p) :
    ∃ r, compP adc f c = some r ∧ 0 ≤ r ∧ r ≤ 2 ^ 32 - 1 ∧ p = pat32 r := by
  unfold pressureResult at h
  split at h
  · cases h
  · next r hr =>
    split at h
    · cases h
    · next hn =>
      rw [not_or, not_lt, not_lt] at hn
      exact ⟨r, hr, hn.1, hn.2, (Except.ok.inj h).symm⟩

theorem pressureResult_error {adc f : Int} {c : PressureCoefs} {e : ErrCode}
    (h : pressureResult adc f c = .error e) :
    (compP adc f c = none ∧ e = .degenerateCal) ∨
      ∃ r, compP adc f c = some r ∧ (r < 0 ∨ 2 ^ 32 - 1 < r) ∧ e = .pRange := by
  unfold pressureResult at h
  split at h
  · next hn => exact .inl ⟨hn, (Except.error.inj h).symm⟩
  · next r hr =>
    split at h
    · next hn => exact .inr ⟨r, hr, hn, (Except.error.inj h).symm⟩
    · cases h

/-! ## Integer primitives -/

theorem asr_bounds (x : Int) (k : Nat) : asr x k * 2 ^ k ≤ x ∧ x < (asr x k + 1) * 2 ^ k := by
  have hk : (0 : Int) < 2 ^ k := by positivity
  exact ⟨Int.ediv_mul_le x hk.ne', Int.lt_mul_of_ediv_lt hk (Int.lt_succ (x / 2 ^ k))⟩

theorem asr_mono {x y : Int} (k : Nat) (h : x ≤ y) : asr x k ≤ asr y k :=
  Int.ediv_le_ediv (by positivity) h

theorem toInt_pat32 {x : Int} (h1 : -2 ^ 31 ≤ x) (h2 : x < 2 ^ 31) : (pat32 x).toInt = x := by
  simp only [pat32, BitVec.toInt_ofInt]
  exact Int.bmod_eq_of_le (by omega) (by omega)

theorem toNat_pat32 {x : Int} (h1 : 0 ≤ x) (h2 : x ≤ 2 ^ 32 - 1) : ((pat32 x).toNat : Int) = x := by
  simp only [pat32, BitVec.toNat_ofInt]
  omega

theorem s16_bounds (v : Half) : -32768 ≤ s16 v ∧ s16 v ≤ 32767 := by
  have := v.isLt
  unfold s16
  split <;> omega

theorem s16_eq_toInt (v : Half) : s16 v = v.toInt := by
  have := v.isLt
  rw [BitVec.toInt_eq_toNat_cond]
  unfold s16
  split <;> split <;> omega

theorem interpretCoef_bounds (k : Fin 12) (w : Half) : -32768 ≤ interpretCoef k w ∧ interpretCoef k w ≤ 65535 := by
  have := w.isLt
  have := s16_bounds w
  unfold interpretCoef
  split <;> omega

theorem interpretCoef_unsigned {k : Fin 12} (w : Half) (h : coefUnsigned k = true) :
    0 ≤ interpretCoef k w ∧ interpretCoef k w ≤ 65535 := by
  have := w.isLt
  unfold interpretCoef
  simp only [h, if_true]
  omega

theorem interpretCoef_signed {k : Fin 12} (w : Half) (h : coefUnsigned k = false) :
    -32768 ≤ interpretCoef k w ∧ interpretCoef k w ≤ 32767 := by
  simpa [interpretCoef, h] using s16_bounds w

/-! ## The address map and the command words -/

theorem regAt_offsetOf (r : Reg) : regAt (offsetOf r) = some r := by
  cases r with
  | cal k => revert k; decide
  | _ => rfl

theorem offsetOf_of_regAt {off : Offset} {r : Reg} (h : regAt off = some r) : offsetOf r = off := by
  have all : ∀ o : Offset, ∀ q ∈ regAt o, offsetOf q = o := by decide
  exact all off r (by rw [h]; exact rfl)

theorem decodeCommand_encodeCommand (c : Command) : decodeCommand (encodeCommand c) = .ok c := by
  cases c <;> rfl

/-! ## Reads and writes -/

@[simp] theorem exec_rd (off : Offset) (s : State) : exec (.rd off) s = .next (answer (readOffset off s) s) := rfl

theorem execWr_of_regAt {off : Offset} {r : Reg} (v : Word) (s : State) (h : regAt off = some r) :
    execWr off v s = writeReg r v s := by simp [execWr, h]

theorem execWr_of_bad {off : Offset} (v : Word) (s : State) (h : regAt off = none) :
    execWr off v s = .next (badWrite s) := by simp [execWr, h]

theorem writeCommand_cases (w : Word) (s : State) :
    (∃ c, decodeCommand w = .ok c ∧ writeCommand w s = runCommand c s) ∨
      (∃ e, decodeCommand w = .error e ∧ writeCommand w s = .next (illegalCommand s)) := by
  cases h : decodeCommand w with
  | ok c => exact .inl ⟨c, rfl, by simp [writeCommand, h]⟩
  | error e => exact .inr ⟨e, rfl, by simp [writeCommand, h]⟩

theorem runCommand_eq_exec (c : Command) (s : State) : runCommand c s = exec (Instr.ofCommand c) s := by
  cases c <;> rfl

/-! ## The step -/

theorem step_cases (s : State) :
    (s.pending = [] ∧ step s = .next s) ∨
    (∃ rest, s.pending = .reset :: rest ∧ step s = .next (resetRegisters (beginEvent rest s))) ∨
    (∃ r rest, s.pending = .transaction .host r :: rest ∧ step s = perform r (beginEvent rest s)) ∨
    (∃ r rest, s.pending = .transaction .other r :: rest ∧ step s = .refused .secondHost) := by
  unfold step
  split
  · next h => exact .inl ⟨h, rfl⟩
  · next rest h => exact .inr (.inl ⟨rest, h, rfl⟩)
  · next r rest h => exact .inr (.inr (.inl ⟨r, rest, h, rfl⟩))
  · next r rest h => exact .inr (.inr (.inr ⟨r, rest, h, rfl⟩))

theorem perform_cases (r : Request) (s : State) :
    (∃ i, decode r = .ok i ∧ perform r s = exec i s) ∨
      (∃ e, decode r = .error e ∧ perform r s = .next (illegalCommand s)) := by
  cases h : decode r with
  | ok i => exact .inl ⟨i, rfl, by simp [perform, h]⟩
  | error e => exact .inr ⟨e, rfl, by simp [perform, h]⟩

end Sys2Proof.Machine
end

