-- ==== Sys2Proof/Laws/Host.lean ====
section
/-! SUPPORT. What a host's invocation can do, said once: a script runs to its end or is cut at a transaction that fails. -/

namespace Sys2Proof.Machine

@[simp] theorem after_acts (a : HostAct) (t : HostTrace) : (t.after a).acts = a :: t.acts := rfl
@[simp] theorem after_outcome (a : HostAct) (t : HostTrace) : (t.after a).outcome = t.outcome := rfl

/-! ## runScript -/

theorem runScript_none (script : List HostAct) : runScript none script = { acts := script, outcome := .completed } := by
  induction script with
  | nil => rfl
  | cons a rest ih => cases h : a.canFail <;> simp [runScript, h, ih, HostTrace.after]

/-- Either the whole script is done, or it is cut after a transaction that can fail. -/
theorem runScript_cases (fails : Option Nat) (script : List HostAct) :
    runScript fails script = { acts := script, outcome := .completed } ∨
    ∃ before a rest, script = before ++ a :: rest ∧ a.canFail = true ∧
      runScript fails script = { acts := before ++ [a], outcome := .transportError } := by
  induction script generalizing fails with
  | nil => exact .inl (by simp [runScript])
  | cons a rest ih =>
    by_cases hc : a.canFail = true ∧ fails = some 0
    · exact .inr ⟨[], a, rest, rfl, hc.1, by simp [runScript, hc.1, hc.2]⟩
    · obtain ⟨f, hf⟩ : ∃ f, runScript fails (a :: rest) = (runScript f rest).after a := by
        rw [runScript]
        split
        · next h => exact ⟨_, if_neg fun h0 => hc ⟨h, h0⟩⟩
        · exact ⟨_, rfl⟩
      rw [hf]
      obtain h | ⟨before, b, post, rfl, hb, h⟩ := ih f
      · exact .inl (by rw [h]; rfl)
      · exact .inr ⟨a :: before, b, post, rfl, hb, by rw [h]; rfl⟩

/-- Only a bus transaction can fail. -/
theorem canFail_bus {a : HostAct} (h : a.canFail = true) : ∃ op, a = .bus op := by
  cases a with
  | bus op => exact ⟨op, rfl⟩
  | cpd stmt => cases h

/-! ## Sequencing -/

theorem andThen_completed {t u : HostTrace} (h : t.outcome = .completed) :
    t.andThen u = { acts := t.acts ++ u.acts, outcome := u.outcome } := by simp [HostTrace.andThen, h]

theorem andThen_cut {t u : HostTrace} (h : t.outcome ≠ .completed) : t.andThen u = t := by
  unfold HostTrace.andThen
  split
  · next h' => exact absurd h' h
  all_goals rfl

theorem andThen_cases (t u : HostTrace) :
    (t.outcome = .completed ∧ t.andThen u = { acts := t.acts ++ u.acts, outcome := u.outcome }) ∨
      (t.outcome ≠ .completed ∧ t.andThen u = t) := by
  by_cases h : t.outcome = .completed
  · exact .inl ⟨h, andThen_completed h⟩
  · exact .inr ⟨h, andThen_cut h⟩

/-! ## The statements and the transactions -/

theorem mem_stmts {t : HostTrace} {stmt : Stmt} : stmt ∈ t.stmts ↔ HostAct.cpd stmt ∈ t.acts := by
  unfold HostTrace.stmts
  rw [List.mem_filterMap]
  constructor
  · rintro ⟨a, ha, h⟩
    cases a with
    | bus op => cases h
    | cpd p => cases h; exact ha
  · exact fun h => ⟨_, h, rfl⟩

theorem transact_append (xs ys : List Instr) (s : State) {t : State} (h : transact xs s = .next t) :
    transact (xs ++ ys) s = transact ys t := by
  induction xs generalizing s with
  | nil => cases h; rfl
  | cons i rest ih =>
    simp only [List.cons_append, transact] at h ⊢
    cases he : exec i s with
    | next u => simp only [he] at h ⊢; exact ih u h
    | fault f => cases f
    | refused r => simp [he] at h

/-! ## What a driver returns -/

theorem driverReturn_fields_cases (e : InvocationEnd) (r : Option (ℚ × ℚ)) :
    (e = .completed ∧ (driverReturn e r).fields = some r) ∨
    ((e = .calibrationTimeout ∨ e = .transportError) ∧ (driverReturn e r).fields = some none) ∨
    (e = .notEnded ∧ (driverReturn e r).fields = none) := by
  cases e <;> simp [driverReturn, DriverReturn.fields]

end Sys2Proof.Machine
end

