-- ==== Sys2Proof/Laws/PerInstr.lean ====
section
/-! SUPPORT. Statements about every instruction as syntax, one lemma per constructor of `Instr`. -/

namespace Sys2Proof.Laws

/-- An instruction's word fits its format: a command word has 32 bits, a transaction word 41
(30_encoding.md R61, R68). -/
def EncodingFits.Statement (i : Instr) : Prop :=
  (encodedBits i = 32 ∧ encodedWord i < 2 ^ 32) ∨ (encodedBits i = 48 ∧ encodedWord i < 2 ^ 41)

theorem EncodingFits.nop : EncodingFits.Statement .nop := by left; decide
theorem EncodingFits.decht : EncodingFits.Statement .decht := by left; decide
theorem EncodingFits.compt : EncodingFits.Statement .compt := by left; decide
theorem EncodingFits.compp : EncodingFits.Statement .compp := by left; decide
theorem EncodingFits.comptp : EncodingFits.Statement .comptp := by left; decide
theorem EncodingFits.clrcal : EncodingFits.Statement .clrcal := by left; decide
theorem EncodingFits.clrerr : EncodingFits.Statement .clrerr := by left; decide
theorem EncodingFits.srst : EncodingFits.Statement .srst := by left; decide
theorem EncodingFits.wr (off : Offset) (data : Word) : EncodingFits.Statement (.wr off data) :=
  .inr ⟨rfl, (transferWord true off data).isLt⟩
theorem EncodingFits.rd (off : Offset) : EncodingFits.Statement (.rd off) :=
  .inr ⟨rfl, (transferWord false off 0#32).isLt⟩

end Sys2Proof.Laws
end

