-- ==== Sys2Proof/Tests/Slice0.lean ====
section
/-! SUPPORT. The model's own tests. Expected values come from the spec's encodings and from 95_test_vectors.md, whose
row is named in each comment. The second half shows, for each statement that has hypotheses, concrete values
that meet them. -/

namespace Sys2Proof.Tests

open Sys2Proof Sys2Proof.Machine

/-! ## Small states -/

/-- The state an outcome gives, `none` for a fault or a refusal. -/
def after (o : Host.Outcome State Fault Refusal) : Option State :=
  match o with
  | .next t => some t
  | .fault _ => none
  | .refused _ => none

theorem next_of_after {o : Host.Outcome State Fault Refusal} {t : State} (h : after o = some t) : o = .next t := by
  cases o with
  | next u => exact congrArg _ (Option.some.inj h)
  | fault r => cases h
  | refused r => cases h

/-- What an instruction leaves in STATUS and in the register at `off`. -/
def seen (i : Instr) (off : Offset) (s : State) : Option (Word × Word) :=
  (after (exec i s)).map fun t => (statusWord t, readOffset off t)

/-- The example calibration set (93_implementation_defined.md G4). -/
def exampleTable : Vector Half 12 :=
  #v[0x6B70#16, 0x6743#16, 0xFC18#16, 0x8E7D#16, 0xD643#16, 0x0BD0#16,
     0x0B27#16, 0x008C#16, 0xFFF9#16, 0x3C8C#16, 0xC6F8#16, 0x1770#16]

/-- Reset, then the table and both raw counts written. -/
def loadedWith (table : Vector Half 12) (adct adcp : BitVec 24) : State :=
  { State.reset with
    cal := table, calV := 0xFFF#12, adctIn := adct, adctV := true, adcpIn := adcp, adcpV := true }

/-- The start of row Q1 of 95_test_vectors.md: STATUS 0x0FFF0C00. -/
def loaded : State := loadedWith exampleTable 0x7EED00#24 0x655AC0#24

/-- The state Q1: COMPTP has succeeded, STATUS 0x0FFF6C00. -/
def computed : State :=
  { loaded with
    ut := 0x7EED0#20, tfine := 0x0001F5A6#32, tout := 0x000009CC#32, toutV := true
    up := 0x655AC#20, pout := 0x01892D41#32, poutV := true }

/-- A state with one recorded error. -/
def errored (code : BitVec 4) : State := { State.reset with err := true, errcode := code }

/-- Reset, then the 7 bytes of a humidity measurement written. -/
def humidityLoaded (w0 : Word) (w1 : BitVec 24) : State :=
  { State.reset with htIn0 := w0, hin0V := true, htIn1 := w1, hin1V := true }

/-- Stage 1's three words, the rest of the table zero. -/
def temperatureTable (t1 t2 t3 : Half) : Vector Half 12 :=
  #v[t1, t2, t3, 0#16, 0#16, 0#16, 0#16, 0#16, 0#16, 0#16, 0#16, 0#16]

/-- P1 alone, the rest of the table zero. -/
def pressureTable (p1 : Half) : Vector Half 12 :=
  #v[0#16, 0#16, 0#16, p1, 0#16, 0#16, 0#16, 0#16, 0#16, 0#16, 0#16, 0#16]

/-- A state that waits for COMPP with the given stage 1 result. -/
def pressureReady (table : Vector Half 12) (adcp : BitVec 24) (tFine : Word) : State :=
  { loadedWith table 0#24 adcp with tfine := tFine, toutV := true }

/-! ## Decoding: words written out from 30_encoding.md R63 and R68 -/

theorem test_decode_nop : decodeTableWord 32 0x00000000 = some .nop := by decide
theorem test_decode_decht : decodeTableWord 32 0x00000001 = some .decht := by decide
theorem test_decode_compt : decodeTableWord 32 0x00000002 = some .compt := by decide
theorem test_decode_compp : decodeTableWord 32 0x00000003 = some .compp := by decide
theorem test_decode_comptp : decodeTableWord 32 0x00000004 = some .comptp := by decide
theorem test_decode_clrcal : decodeTableWord 32 0x00000005 = some .clrcal := by decide
theorem test_decode_clrerr : decodeTableWord 32 0x00000006 = some .clrerr := by decide
theorem test_decode_srst : decodeTableWord 32 0x0000000F = some .srst := by decide

/-- `1_10_007EED00`, the ADCT_IN line of program P2. -/
theorem test_decode_wr : decodeTableWord 48 0x110007EED00 = some (.wr 0x10#8 0x007EED00#32) := by decide

/-- `0_60_00000000`, the POUT line of program P2. -/
theorem test_decode_rd : decodeTableWord 48 0x06000000000 = some (.rd 0x60#8) := by decide

/-- 0x00000007 to 0x0000000E and a word with a reserved bit are illegal (30_encoding.md R67). -/
theorem test_decode_illegal :
    [0x7, 0x8, 0x9, 0xA, 0xB, 0xC, 0xD, 0xE, 0x10, 0x12, 0x80000000].map (decodeTableWord 32) =
      List.replicate 11 none := by decide

/-- DATA is 0 in a read (30_encoding.md R68); no word has more than 41 bits. -/
theorem test_decode_malformed_transfer :
    decodeTableWord 48 0x06000000001 = none ∧ decodeTableWord 48 0x20000000000 = none := by decide

/-- A COMPT is TW 0x1_00_00000002 as well (30_encoding.md R68): a write to CMD. -/
theorem test_decode_command_as_transfer :
    decodeTableWord 48 0x10000000002 = some (.wr 0x00#8 0x00000002#32) := by decide

/-! ## Well-formedness: an ill-formed term for each check -/

theorem test_command_word_reserved_op : commandWordLegal 0x00000007#32 = false := by decide
theorem test_command_word_reserved_bits : commandWordLegal 0x00000012#32 = false := by decide
theorem test_command_word_legal : commandWordLegal 0x0000000F#32 = true := by decide
theorem test_transfer_word_read_with_data : transferWordLegal 0x06000000001#41 = false := by decide
theorem test_transfer_word_write_with_data : transferWordLegal 0x16000000001#41 = true := by decide
theorem test_immediate_too_large : (Stmt.wr (.named .adctIn) 4294967296).wellFormed = false := by decide
theorem test_immediate_too_small : (Stmt.wr (.named .adctIn) (-2147483649)).wellFormed = false := by decide

/-- A legal word is exactly one the decoder accepts. -/
theorem test_legal_words_decode (w : Fin 32) :
    commandWordLegal (BitVec.ofNat 32 w) = (decodeTableWord 32 w).isSome := by revert w; decide

/-! ## One step of each instruction -/

/-- Row N1: NOP leaves everything, with an error recorded too. -/
theorem test_nop : after (exec .nop (errored 2#4)) = some (errored 2#4) := by decide

/-- Row H2. -/
theorem test_decht_h2 :
    (after (exec .decht (humidityLoaded 0x1C6B1E45#32 0x8C3A00#24))).map
      (fun t => (statusWord t, t.humRaw, t.htempRaw)) = some (0x00001300#32, 0x6B1E4#20, 0x58C3A#20) := by decide

/-- Row H5: the low nibble of b3 goes to the temperature only. -/
theorem test_decht_h5 :
    (after (exec .decht (humidityLoaded 0x0000000F#32 0x000000#24))).map
      (fun t => (t.humRaw, t.htempRaw)) = some (0x00000#20, 0xF0000#20) := by decide

/-- Row Ta. -/
theorem test_compt_ta :
    (after (exec .compt loaded)).map (fun t => (statusWord t, t.tfine, t.tout, t.ut)) =
      some (0x0FFF2C00#32, 0x0001F5A6#32, 0x000009CC#32, 0x7EED0#20) := by decide

/-- Row Tc, on which a 32-bit evaluation overflows. -/
theorem test_compt_tc :
    (after (exec .compt (loadedWith (temperatureTable 0x0000#16 0x8000#16 0x8000#16) 0xFFFFF0#24 0#24))).map
      (fun t => (t.tfine, t.tout)) = some (0xFFC00050#32, 0xFFFEC002#32) := by decide

/-- Row Pc, on which floor division would give 36895609. -/
theorem test_compp_pc :
    (after (exec .compp (pressureReady
      #v[0#16, 0#16, 0#16, 0x696F#16, 0x3A2D#16, 0xD747#16, 0xFE56#16, 0xBC38#16, 0x20EF#16, 0x8BCD#16, 0x2164#16,
        0x629B#16] 0x36BAF0#24 0xFFF52419#32))).map
      (fun t => (t.pout.toNat, t.up.toNat, t.poutV)) = some (36895610, 224175, true) := by decide

/-- Row Pk: a negative result is P_RANGE. -/
theorem test_compp_pk :
    seen .compp 0x60#8 (pressureReady exampleTable 0xFFFFF0#24 0x0001F5A6#32) =
      some (0x0FFF2C61#32, 0x00000000#32) := by decide

/-- Row Q1. -/
theorem test_comptp_q1 : after (exec .comptp loaded) = some computed := by decide

/-- Row Q3: P1 = 0 is DEGENERATE_CAL; the data registers keep their values. -/
theorem test_comptp_q3 :
    (after (exec .comptp { computed with cal := exampleTable.set 3 0#16, poutV := false })).map
      (fun t => (statusWord t, t.tout, t.pout)) = some (0x0FFF0C51#32, 0x000009CC#32, 0x01892D41#32) := by decide

/-- Row N2: the words of the table stay. -/
theorem test_clrcal : seen .clrcal 0x1C#8 computed = some (0x00000C00#32, 0x00006743#32) := by decide

/-- Row N4. -/
theorem test_clrerr : seen .clrerr 0x04#8 (errored 5#4) = some (0x00000000#32, 0x00000000#32) := by decide

/-- Row N6. -/
theorem test_srst : after (exec .srst computed) = some State.reset := by decide

/-- Row K1: a signed coefficient reads back sign-extended. -/
theorem test_wr_k1 : seen (.wr 0x1C#8 40000#32) 0x1C#8 State.reset = some (0x00020000#32, 0xFFFF9C40#32) := by decide

/-- Row B2: a misaligned write changes no register. -/
theorem test_wr_b2 : seen (.wr 0x0A#8 0x1234#32) 0x08#8 State.reset = some (0x00000071#32, 0x00000000#32) := by
  decide

/-- Program P2, its last lines: CAL2 reads sign-extended. -/
theorem test_rd_cal2 : (after (exec (.rd 0x20#8) computed)).map (·.reply) = some (some 0xFFFFFC18#32) := by decide

/-- Row B6: an unmapped, a misaligned and a write-only offset read 0. -/
theorem test_rd_b6 :
    [0x64#8, 0x02#8, 0x00#8].map (fun o => (after (exec (.rd o) computed)).map (·.reply)) =
      List.replicate 3 (some (some 0#32)) := by decide

/-- Section 2.10: rewriting CAL2 clears TOUT_V and POUT_V; CAL3, POUT_V alone. -/
theorem test_wr_stale :
    seen (.wr 0x20#8 0xFC18#32) 0x58#8 computed = some (0x0FFF0C00#32, 0x000009CC#32) ∧
    seen (.wr 0x24#8 0x8E7D#32) 0x60#8 computed = some (0x0FFF2C00#32, 0x01892D41#32) := by decide

/-! ## The step and the host's side -/

/-- An illegal word stands at the port: rows E11 and E12. -/
theorem test_step_illegal_word :
    (after (step (State.reset.withFetchWord 32 0x12))).map statusWord = some 0x00000011#32 := by decide

/-- Row Q1 through the port, as a command word. -/
theorem test_step_comptp : after (step (loaded.withFetchWord 32 0x4)) = some computed := by decide

/-- The lower of two sensor bytes is the less significant (41_compensation.md R97). -/
theorem test_cal_word : calWord 0x70#8 0x6B#8 = 0x6B70#16 := by decide

/-- `LDHT` of program P1. -/
theorem test_expand_ldht :
    expand (.ldht 0x1C#8 0x6B#8 0x1E#8 0x45#8 0x8C#8 0x3A#8 0x00#8) =
      [.wr 0x08#8 0x1C6B1E45#32, .wr 0x0C#8 0x008C3A00#32] := by decide

/-- Row S5: two init writes for the status sequence 0x00, 0x00, 0x18. -/
theorem test_calibration_wait :
    (awaitCalibration none [.status 0x00#8, .status 0x00#8, .status 0x18#8]).ops =
      [statusRead, initWrite, .waitAtLeast 50, statusRead, initWrite, .waitAtLeast 50, statusRead] := by decide

/-- Row H7: the middle of both ranges. -/
theorem test_humidity_reading_h7 :
    humidityReading { State.reset with humRaw := 0x80000#20, htempRaw := 0x80000#20, houtV := true } =
      some (50, 50) := by
  norm_num [humidityReading, humidityCelsius, relativeHumidity]

/-- What the bus answers in the invocations below: all succeeds, with the bytes of P1 and P2. -/
def humidityBus : HumidityBus where
  resetFails := none
  polls := [.status 0x00#8, .status 0x18#8]
  measureFails := none
  bytes := #v[0x1C#8, 0x6B#8, 0x1E#8, 0x45#8, 0x8C#8, 0x3A#8, 0x00#8]

def pressureBus : PressureBus where
  fails := none
  calibration := #v[0x70#8, 0x6B#8, 0x43#8, 0x67#8, 0x18#8, 0xFC#8, 0x7D#8, 0x8E#8, 0x43#8, 0xD6#8, 0xD0#8, 0x0B#8,
    0x27#8, 0x0B#8, 0x8C#8, 0x00#8, 0xF9#8, 0xFF#8, 0x8C#8, 0x3C#8, 0xF8#8, 0xC6#8, 0x70#8, 0x17#8]
  temperature := #v[0x7E#8, 0xED#8, 0x00#8]
  pressure := #v[0x65#8, 0x5A#8, 0xC0#8]

/-- Program P1, from the bus on. -/
theorem test_humidity_invocation :
    (humidityInvocation none humidityBus).issued =
      [.wr 0x08#8 0x1C6B1E45#32, .wr 0x0C#8 0x008C3A00#32, .wr 0x00#8 1#32, .rd 0x04#8, .rd 0x48#8, .rd 0x4C#8] := by
  decide

/-- Program P2's transactions but for its last two lines, in the order of the driver. -/
theorem test_pressure_invocation :
    (pressureInvocation true .oneCommand pressureBus).issued =
      [.wr 0x18#8 0x6B70#32, .wr 0x1C#8 0x6743#32, .wr 0x20#8 0xFC18#32, .wr 0x24#8 0x8E7D#32, .wr 0x28#8 0xD643#32,
       .wr 0x2C#8 0x0BD0#32, .wr 0x30#8 0x0B27#32, .wr 0x34#8 0x008C#32, .wr 0x38#8 0xFFF9#32, .wr 0x3C#8 0x3C8C#32,
       .wr 0x40#8 0xC6F8#32, .wr 0x44#8 0x1770#32, .wr 0x10#8 0x007EED00#32, .wr 0x14#8 0x00655AC0#32,
       .wr 0x00#8 4#32, .rd 0x04#8, .rd 0x58#8, .rd 0x60#8] := by
  decide

/-- Row S9: the read of the 7 bytes fails. Nothing reaches the CPD, and both fields are absent. -/
theorem test_transport_error :
    (humidityInvocation none { humidityBus with measureFails := some 1 }).issued = [] ∧
    (driverReturn (humidityInvocation none { humidityBus with measureFails := some 1 }).outcome (some (0, 0))).fields =
      some none := ⟨by decide, rfl⟩

/-! ## Witnesses: values that meet the hypotheses of each statement -/

theorem witness_DecodeInvertsEncode :
    (Instr.wr 0xFF#8 0xFFFFFFFF#32).wellFormed = true ∧ (Instr.rd 0x00#8).wellFormed = true := by decide

theorem witness_EncodeInvertsDecode :
    decodeCommand 0x0000000F#32 = .ok .srst ∧ decodeTransferWord 0x1FFFFFFFFFF#41 = .ok (.wr 0xFF#8 0xFFFFFFFF#32) ∧
      decodeTransferWord 0x0FF00000000#41 = .ok (.rd 0xFF#8) := ⟨rfl, rfl, rfl⟩

/-- The words at both ends of the reserved opcodes, the first and the last with a reserved bit; and the legal words
beside them do not meet the hypothesis. -/
theorem witness_IllegalWordsOnlyRaise :
    (∀ w ∈ [0x00000007#32, 0x0000000E#32, 0x00000010#32, 0xFFFFFFFF#32],
      w.extractLsb' 4 28 ≠ 0#28 ∨ (7 ≤ w.toNat ∧ w.toNat ≤ 14)) ∧
    (∀ w ∈ [0x00000006#32, 0x0000000F#32], ¬ (w.extractLsb' 4 28 ≠ 0#28 ∨ (7 ≤ w.toNat ∧ w.toNat ≤ 14))) ∧
    State.reset.err = false ∧ (errored 2#4).err = true := by
  refine ⟨by simp, by simp, rfl, rfl⟩

theorem witness_StepRunsTheDecodedInstruction :
    (State.reset.withFetchWord 32 2).pending = .transaction .host (.command 2#32) :: [] ∧
      decode (.command 2#32) = .ok .compt ∧ Instr.compt.wellFormed = true ∧
      decode (.transfer false 0x60#8 5#32) = .ok (.rd 0x60#8) := ⟨rfl, rfl, rfl, rfl⟩

/-- The refused requests: the first and last reserved opcode and a reserved bit, with no error and with one. -/
theorem witness_StepRunsTheDecodedInstruction_refused :
    decode (.command 0x7#32) = .error .reservedOpcode ∧ decode (.command 0xE#32) = .error .reservedOpcode ∧
      decode (.command 0x10#32) = .error .reservedBits ∧
      (State.reset.withFetchWord 32 7).pending = .transaction .host (.command 7#32) :: [] ∧
      (State.reset.withFetchWord 32 7).err = false ∧ ((errored 2#4).withFetchWord 32 7).err = true :=
  ⟨rfl, rfl, rfl, rfl, rfl, rfl⟩

theorem witness_FetchedWordRuns :
    decodeTableWord 48 0x1FFFFFFFFFF = some (.wr 0xFF#8 0xFFFFFFFF#32) ∧ decodeTableWord 32 0 = some .nop := by decide

theorem witness_StepTakesTheFirstEvent :
    (∃ t, step { loaded with pending := [.transaction .host (.command 4#32), .reset] } = .next t ∧
      t.pending = [.reset]) ∧ loaded.pending = [] := ⟨⟨_, rfl, rfl⟩, rfl⟩

theorem witness_SingleHostNeverStops :
    SingleHost { loaded with pending := [.transaction .host (.command 9#32), .reset] } := by
  intro r; simp

theorem witness_SecondHostIsRefused :
    ({ loaded with pending := [.transaction .other (.command 4#32)] } : State).pending =
      .transaction .other (.command 4#32) :: [] := rfl

theorem witness_RstResetsAnyState :
    ({ computed with pending := [.reset] } : State).pending = .reset :: [] := rfl

/-- A misaligned, the first and the last unmapped (and the last offset of all), and the first and last read-only. -/
theorem witness_BadAccesses :
    BadWriteOffset 0x09#8 ∧ BadWriteOffset 0x64#8 ∧ BadWriteOffset 0xFC#8 ∧ BadWriteOffset 0xFF#8 ∧
    BadWriteOffset 0x04#8 ∧ BadWriteOffset 0x48#8 ∧ BadWriteOffset 0x60#8 ∧
    ¬ BadWriteOffset 0x00#8 ∧ ¬ BadWriteOffset 0x08#8 ∧ ¬ BadWriteOffset 0x44#8 ∧
    BadReadOffset 0x00#8 ∧ BadReadOffset 0x02#8 ∧ BadReadOffset 0x64#8 ∧ ¬ BadReadOffset 0x60#8 ∧
    State.reset.err = false ∧ (errored 1#4).err = true := by
  simp [BadWriteOffset, BadReadOffset, errored]

/-- The offsets at both ends of each of the two ranges, and another offset. -/
theorem witness_InputWritesReadBack :
    (InputOffset 0x08#8 ∧ (0x08#8 : Offset).toNat < 0x18) ∧ (InputOffset 0x14#8 ∧ (0x14#8 : Offset).toNat < 0x18) ∧
    (InputOffset 0x18#8 ∧ 0x18 ≤ (0x18#8 : Offset).toNat) ∧ (InputOffset 0x44#8 ∧ 0x18 ≤ (0x44#8 : Offset).toNat) ∧
    (0x60#8 : Offset) ≠ 0x08#8 ∧ (0x60#8 : Offset) ≠ 0x04#8 ∧ ¬ InputOffset 0x04#8 ∧ ¬ InputOffset 0x48#8 := by
  simp only [InputOffset]; decide

/-- Both clauses of DECHT. -/
theorem witness_DechtDecodesTheBytes :
    let s := humidityLoaded (0x1C#8 ++ 0x6B#8 ++ 0x1E#8 ++ 0x45#8) (0x8C#8 ++ 0x3A#8 ++ 0x00#8)
    let r := { s with hin1V := false }
    (s.err = false ∧ s.hin0V = true ∧ s.hin1V = true ∧ s.htIn0 = 0x1C#8 ++ 0x6B#8 ++ 0x1E#8 ++ 0x45#8 ∧
      s.htIn1 = 0x8C#8 ++ 0x3A#8 ++ 0x00#8) ∧
    (r.err = false ∧ (r.hin0V = false ∨ r.hin1V = false)) := by decide

theorem witness_DechtIgnoresStatusAndCrc :
    ∃ t, exec .decht (humidityLoaded 0x1C6B1E45#32 0x8C3A00#24) = .next t ∧ t.humRaw = 0x6B1E4#20 := ⟨_, rfl, by decide⟩

theorem witness_ZeroBytesReadMinusFifty :
    let s := humidityLoaded (0xFF#8 ++ 0#24) (0#16 ++ 0xFF#8)
    s.err = false ∧ s.hin0V = true ∧ s.hin1V = true ∧ s.htIn0 = 0xFF#8 ++ 0#24 ∧ s.htIn1 = 0#16 ++ 0xFF#8 := by decide

/-- The three clauses of COMPT: the input missing, one word of the three missing, and all there. -/
theorem witness_ComptComputesStage1 :
    let a := State.reset
    let b := { loaded with calV := 0xFFB#12 }
    (a.err = false ∧ a.adctV = false) ∧
    (b.err = false ∧ b.adctV = true ∧ b.calV.extractLsb' 0 3 ≠ 0b111#3) ∧
    (loaded.err = false ∧ loaded.adctV = true ∧ loaded.calV.extractLsb' 0 3 = 0b111#3) := by decide

/-- The first four clauses of COMPP, up to the present operands. -/
theorem witness_ComppComputesStage2_checks :
    let a := State.reset
    let b := { loaded with calV := 0x7FF#12 }
    (a.err = false ∧ a.adcpV = false) ∧
    (b.err = false ∧ b.adcpV = true ∧ b.calV.extractLsb' 3 9 ≠ 0x1FF#9) ∧
    (loaded.err = false ∧ loaded.adcpV = true ∧ loaded.calV.extractLsb' 3 9 = 0x1FF#9 ∧ loaded.toutV = false) ∧
    (computed.err = false ∧ computed.adcpV = true ∧ computed.calV.extractLsb' 3 9 = 0x1FF#9 ∧
      computed.toutV = true) := by decide

/-- Stage 2 as COMPP applies it to a state (`r` of the statement; `none` where its `div` is 0). -/
def comppStage2 (s : State) : Option Int := compP (adcP s).toNat (tFineOperand s) (pressureCoefs s)

/-- Stage 2 as COMPTP applies it to a state (`two` of the statement). -/
def comptpStage2 (s : State) : Option Int := compP (adcP s).toNat (stage1Of s).tFine (pressureCoefs s)

/-- The results of stage 2 in states that meet all of COMPP's checks: rows Pb, Pe, Pk and Pa. -/
theorem witness_ComppComputesStage2_results :
    comppStage2 (pressureReady (exampleTable.set 3 0#16) 0x655AC0#24 0x0001F5A6#32) = none ∧
    comppStage2 (pressureReady (pressureTable 1#16) 0x000000#24 0x00000000#32) = some 1677721600000 ∧
    comppStage2 (pressureReady exampleTable 0xFFFFF0#24 0x0001F5A6#32) = some (-1697504) ∧
    comppStage2 (pressureReady exampleTable 0x655AC0#24 0x0001F5A6#32) = some 25767233 := by decide

theorem witness_DegenerateExactlyBelow :
    (⟨0, 1, 2, 3, 4, 5, 6, 7, 8⟩ : PressureCoefs).p1 = 0 := rfl

/-- Each clause at values around zero, where the two divisions agree and where they do not. -/
theorem witness_DivisionTruncates :
    ((2 : Int) ≠ 0 ∧ ((0 : Int) ≤ 7 ∧ (0 : Int) < 2)) ∧ ((-2 : Int) ≠ 0 ∧ ((-7 : Int) ≤ 0 ∧ (-2 : Int) < 0)) ∧
    ((2 : Int) ≠ 0 ∧ (2 : Int) ∣ -8) ∧
    (((0 : Int) < 7 ∧ (-2 : Int) < 0) ∧ ¬ (-2 : Int) ∣ 7) ∧ (((-7 : Int) < 0 ∧ (0 : Int) < 2) ∧ ¬ (2 : Int) ∣ -7) := by
  decide

theorem witness_DivisorRange :
    (-4194224 : Int) ≤ -4194224 ∧ (-4194224 : Int) ≤ 4194144 ∧ (-4194224 : Int) ≤ 4194144 ∧ (4194144 : Int) ≤ 4194144 := by
  decide

theorem witness_Stage2Fits132Bits :
    (-4194224 ≤ (0xFFC00050#32 : Word).toInt ∧ (0xFFC00050#32 : Word).toInt ≤ 4194144) ∧
    (-4194224 ≤ (0x003FFF60#32 : Word).toInt ∧ (0x003FFF60#32 : Word).toInt ≤ 4194144) := by decide

/-- The five check clauses of COMPTP. -/
theorem witness_ComptpComputesBothStages_checks :
    let a := State.reset
    let b := { loaded with calV := 0xFFE#12 }
    let c := { loaded with adcpV := false }
    let d := { loaded with calV := 0x007#12 }
    (a.err = false ∧ a.adctV = false) ∧
    (b.err = false ∧ b.adctV = true ∧ b.calV.extractLsb' 0 3 ≠ 0b111#3) ∧
    (c.err = false ∧ c.adctV = true ∧ c.calV.extractLsb' 0 3 = 0b111#3 ∧ c.adcpV = false) ∧
    (d.err = false ∧ d.adctV = true ∧ d.calV.extractLsb' 0 3 = 0b111#3 ∧ d.adcpV = true ∧
      d.calV.extractLsb' 3 9 ≠ 0x1FF#9) ∧
    (loaded.err = false ∧ loaded.adctV = true ∧ loaded.adcpV = true ∧ loaded.calV = 0xFFF#12) := by decide

/-- The results of stage 2 in states that meet all of COMPTP's checks: rows Q3, Q2 and Q1, and a result above the
range. -/
theorem witness_ComptpComputesBothStages_results :
    comptpStage2 (loadedWith (exampleTable.set 3 0#16) 0x7EED00#24 0x655AC0#24) = none ∧
    comptpStage2 (loadedWith (pressureTable 1#16) 0x000000#24 0x000000#24) = some 1677721600000 ∧
    comptpStage2 (loadedWith exampleTable 0x7EED00#24 0xFFFFF0#24) = some (-1697504) ∧
    comptpStage2 loaded = some 25767233 := by decide

theorem witness_ComptpIsComptThenCompp :
    ∃ t u, loaded.err = false ∧ exec .compt loaded = .next t ∧ t.err = false ∧ exec .compp t = .next u ∧
      u.err = false :=
  ⟨{ loaded with ut := 0x7EED0#20, tfine := 0x0001F5A6#32, tout := 0x000009CC#32, toutV := true }, computed, rfl,
    next_of_after (by decide), rfl, next_of_after (by decide), rfl⟩

/-- A command that succeeds, one that fails, and one that is ignored. -/
theorem witness_ComputeIsIdempotent :
    (∃ t, exec .comptp loaded = .next t ∧ t = computed) ∧ (∃ t, exec .compp loaded = .next t ∧ t.err = true) ∧
      (∃ t, exec .decht (errored 7#4) = .next t ∧ t = errored 7#4) :=
  ⟨⟨computed, next_of_after (by decide), rfl⟩, ⟨_, rfl, by decide⟩, ⟨_, rfl, rfl⟩⟩

theorem witness_ClrcalInvalidatesTheTable :
    (errored 5#4).err = true ∧ computed.err = false ∧ (0x1C#8 : Offset) ≠ 0x04#8 ∧ computed.adctV = true ∧ computed.adcpV = true := by
  decide

/-- A gated command, an illegal word, a bad access, and an input write that goes on. -/
theorem witness_ErrorGatesCommands :
    let s := { computed with err := true, errcode := 1#4 }
    s.err = true ∧
    (∀ w ∈ [0x00000004#32, 0x00000007#32, 0x00000010#32],
      w ≠ 0x00000000#32 ∧ w ≠ 0x00000006#32 ∧ w ≠ 0x0000000F#32) ∧
    BadWriteOffset 0x04#8 ∧ InputOffset 0x08#8 ∧ InputOffset 0x44#8 ∧
    (∃ t, exec (.wr 0x44#8 5#32) { s with err := false, errcode := 0#4 } = .next t ∧ t.poutV = false) := by
  refine ⟨rfl, by simp, by simp only [BadWriteOffset]; decide, by simp only [InputOffset]; decide,
    by simp only [InputOffset]; decide, _, rfl, by decide⟩

/-- Both clauses, the first also through a write to CMD. -/
theorem witness_FirstErrorIsKept :
    (errored 3#4).err = true ∧
    (∃ t, exec (.wr 0x00#8 6#32) (errored 3#4) = .next t ∧ commandOf (.wr 0x00#8 6#32) = some .clrerr) ∧
    (∃ t, exec .srst (errored 3#4) = .next t ∧ commandOf .srst = some .srst) ∧
    (∃ t, exec (.wr 0x04#8 0#32) (errored 3#4) = .next t ∧
      ¬ (commandOf (.wr 0x04#8 0#32) = some .clrerr ∨ commandOf (.wr 0x04#8 0#32) = some .srst)) :=
  ⟨rfl, ⟨_, rfl, by decide⟩, ⟨_, rfl, by decide⟩, ⟨_, rfl, by decide⟩⟩

/-- A failing command, an illegal word and a bad access. -/
theorem witness_FailuresAreNeverPartial :
    loaded.err = false ∧ (∃ t, exec .compp loaded = .next t ∧ t.err = true) ∧
    (∃ t, exec (.wr 0x00#8 9#32) loaded = .next t ∧ t.err = true) ∧
    (∃ t, exec (.wr 0xFF#8 9#32) loaded = .next t ∧ t.err = true) :=
  ⟨rfl, ⟨_, rfl, by decide⟩, ⟨_, rfl, by decide⟩, ⟨_, rfl, by decide⟩⟩

/-- Row H2's bytes: a DECHT that succeeds, and one with an input missing. -/
theorem witness_HumidityReadingOfEveryMeasurement :
    let s := humidityLoaded (0x1C#8 ++ 0x6B#8 ++ 0x1E#8 ++ 0x45#8) (0x8C#8 ++ 0x3A#8 ++ 0x00#8)
    (s.err = false ∧ ∃ t, exec .decht s = .next t ∧ t.err = false) ∧
    (∃ t, exec .decht { s with hin0V := false } = .next t ∧ t.err = true) :=
  ⟨⟨rfl, _, rfl, by decide⟩, _, rfl, by decide⟩

/-- COMPTP that fails and that succeeds; COMPT then COMPP where the first fails, where the second fails (row Pk), and
where both succeed. -/
theorem witness_PressureReadingIsNeverPartial :
    (State.reset.err = false ∧ ∃ u, exec .comptp State.reset = .next u ∧ u.err = true) ∧
    (loaded.err = false ∧ ∃ u, exec .comptp loaded = .next u ∧ u.err = false) ∧
    (∃ t u, exec .compt State.reset = .next t ∧ exec .compp t = .next u ∧ u.err = true) ∧
    (∃ t u, exec .compt (loadedWith exampleTable 0x7EED00#24 0xFFFFF0#24) = .next t ∧ t.err = false ∧
      exec .compp t = .next u ∧ u.err = true) ∧
    (∃ t u, exec .compt loaded = .next t ∧ exec .compp t = .next u ∧ u.err = false) := by
  refine ⟨⟨rfl, _, rfl, by decide⟩, ⟨rfl, _, rfl, by decide⟩, ⟨_, _, rfl, rfl, by decide⟩, ?_, ?_⟩
  · exact ⟨{ loadedWith exampleTable 0x7EED00#24 0xFFFFF0#24 with
        ut := 0x7EED0#20, tfine := 0x0001F5A6#32, tout := 0x000009CC#32, toutV := true }, _,
      next_of_after (by decide), rfl, rfl, by decide⟩
  · exact ⟨{ loaded with ut := 0x7EED0#20, tfine := 0x0001F5A6#32, tout := 0x000009CC#32, toutV := true }, computed,
      next_of_after (by decide), next_of_after (by decide), rfl⟩

/-- Every valid bit set and every result present: the state Q1 with the decode of row H2 (section 2.10's V0, but for
its bytes). -/
def full : State :=
  { computed with
    htIn0 := 0x1C6B1E45#32, hin0V := true, htIn1 := 0x8C3A00#24, hin1V := true
    humRaw := 0x6B1E4#20, htempRaw := 0x58C3A#20, houtV := true
    pending := [.transaction .host (.transfer true 0x10#8 0#32)] }

theorem witness_EveryStepKeepsInvariant : Invariant full ∧ ∃ t, step full = .next t ∧ t.toutV = false := by
  refine ⟨?_, _, rfl, by decide⟩
  constructor <;> decide

theorem witness_OnlyHostWritesTheTable :
    ∃ t, exec (.wr 0x18#8 5#32) State.reset = .next t ∧ t.cal ≠ State.reset.cal := ⟨_, rfl, by decide⟩

/-- The three clauses. -/
theorem witness_OutputsWrittenOnlyBySuccess :
    (∃ t, exec .decht (humidityLoaded 0x1C6B1E45#32 0x8C3A00#24) = .next t ∧ commandOf .decht ≠ some .srst ∧
      t.humRaw ≠ (humidityLoaded 0x1C6B1E45#32 0x8C3A00#24).humRaw) ∧
    (∃ t, exec .compt loaded = .next t ∧ commandOf .compt ≠ some .srst ∧ t.tfine ≠ loaded.tfine) ∧
    (∃ t, exec .comptp loaded = .next t ∧ commandOf .comptp ≠ some .srst ∧ t.pout ≠ loaded.pout) :=
  ⟨⟨_, rfl, by decide⟩, ⟨_, rfl, by decide⟩, ⟨_, rfl, by decide⟩⟩

/-- The first and the last input valid bits, and a CAL_V bit cleared. -/
theorem witness_InputValidBitsStay :
    full.hin0V = true ∧ full.hin1V = true ∧ full.adctV = true ∧ full.adcpV = true ∧
    ∃ t, exec .clrcal full = .next t ∧ commandOf .clrcal ≠ some .srst ∧
      full.calV.getLsbD (11 : Fin 12) = true ∧ t.calV.getLsbD (11 : Fin 12) = false :=
  ⟨rfl, rfl, rfl, rfl, _, rfl, by decide⟩

theorem witness_PortFrame :
    (∃ t, exec .comptp full = .next t ∧ t.pending ≠ []) ∧ (∀ off, Instr.comptp ≠ .rd off) := by
  refine ⟨⟨_, rfl, by decide⟩, ?_⟩
  intro off h
  cases h

/-- The source's sequence, and every bound it exceeds. -/
theorem witness_CalibrationWaitInitWrites :
    (∀ b ∈ [0x00#8, 0x00#8], b ≠ 0x18#8) ∧ 0 < [0x00#8, 0x00#8].length ∧ 1 < [0x00#8, 0x00#8].length := by decide

theorem witness_NeverReadySensorHangs :
    (∀ n, ∃ b, (fun _ : Nat => Poll.status 0x00#8) n = .status b ∧ b ≠ 0x18#8) ∧ 0 < 1 :=
  ⟨fun _ => ⟨_, rfl, by decide⟩, by decide⟩

/-- A failure at the first transaction and at the last, a failed poll and a timeout; and no failure. -/
theorem witness_AbortedInvocationIssuesNoCommand :
    (humidityInvocation none { humidityBus with resetFails := some 0 }).outcome = .transportError ∧
    (humidityInvocation none { humidityBus with polls := [.readFails] }).outcome = .transportError ∧
    (humidityInvocation none { humidityBus with measureFails := some 1 }).outcome = .transportError ∧
    (humidityInvocation (some 0) humidityBus).outcome = .calibrationTimeout ∧
    (pressureInvocation true .oneCommand { pressureBus with fails := some 0 }).outcome = .transportError ∧
    (pressureInvocation true .twoCommands { pressureBus with fails := some 14 }).outcome = .transportError ∧
    (pressureInvocation false .oneCommand { pressureBus with fails := some 2 }).outcome = .transportError ∧
    pressureBus.fails = none := by decide

theorem witness_CachedTableGivesTheSameResult :
    pressureBus.fails = none ∧ computed.calV = 0xFFF#12 ∧ computed.cal = calWords pressureBus.calibration := by decide

end Sys2Proof.Tests
end

/-! SUPPORT. Truncating division against floor division (00_scope.md R10), and the pressure invocation of a host that
keeps the calibration table against that of a host that loads it again (00_scope.md R8). -/

namespace Sys2Proof.Machine

/-! ## Truncation and floor -/

theorem tdiv_eq_fdiv_of_nonneg {n d : Int} (hn : 0 ≤ n) (hd : 0 ≤ d) : tdiv n d = Int.fdiv n d :=
  (Int.fdiv_eq_tdiv_of_nonneg hn hd).symm

theorem tdiv_eq_fdiv_of_nonpos {n d : Int} (hn : n ≤ 0) (hd : d ≤ 0) : tdiv n d = Int.fdiv n d := by
  have h : tdiv (-n) (-d) = Int.fdiv (-n) (-d) := tdiv_eq_fdiv_of_nonneg (by omega) (by omega)
  rwa [tdiv, Int.neg_tdiv_neg, Int.neg_fdiv_neg] at h

theorem tdiv_eq_fdiv_of_dvd {n d : Int} (h : d ∣ n) : tdiv n d = Int.fdiv n d := by
  simp [tdiv, Int.tdiv_eq_fdiv, h]

/-- Opposite signs, the numerator positive: the exact quotient is negative, and truncation is its ceiling. -/
theorem tdiv_eq_fdiv_add_one_of_pos_neg {n d : Int} (hn : 0 < n) (hd : d < 0) (h : ¬ d ∣ n) :
    tdiv n d = Int.fdiv n d + 1 := by
  simp [tdiv, Int.tdiv_eq_fdiv, h, hn.le, hd.not_ge]

/-- Opposite signs, the numerator negative. -/
theorem tdiv_eq_fdiv_add_one_of_neg_pos {n d : Int} (hn : n < 0) (hd : 0 < d) (h : ¬ d ∣ n) :
    tdiv n d = Int.fdiv n d + 1 := by
  simp [tdiv, Int.tdiv_eq_fdiv, h, hn.not_ge, hd.le, Int.sign_eq_one_of_pos hd]

/-- Settles O29: the sign cases one by one, and R111's example by evaluating stage 2. -/
theorem divisionTruncates : Obligations.DivisionTruncates := by
  refine ⟨?agree, ?differ, by decide⟩
  case agree =>
    rintro n d - (⟨hn, hd⟩ | ⟨hn, hd⟩ | hdvd)
    · exact tdiv_eq_fdiv_of_nonneg hn hd.le
    · exact tdiv_eq_fdiv_of_nonpos hn hd.le
    · exact tdiv_eq_fdiv_of_dvd hdvd
  case differ =>
    rintro n d (⟨hn, hd⟩ | ⟨hn, hd⟩) hdvd
    · exact tdiv_eq_fdiv_add_one_of_pos_neg hn hd hdvd
    · exact tdiv_eq_fdiv_add_one_of_neg_pos hn hd hdvd

/-! ## Loading a table the CPD already holds -/

/-- `s` with the temperature and the pressure absent: all that a load of the table `s` holds can change. -/
def withoutCompensation (s : State) : State := { s with toutV := false, poutV := false }

/-- The CPD holds the whole table `w`. -/
def HoldsTable (w : Vector Half 12) (s : State) : Prop := s.calV = 0xFFF#12 ∧ s.cal = w

theorem holdsTable_withoutCompensation {w : Vector Half 12} {s : State} :
    HoldsTable w (withoutCompensation s) ↔ HoldsTable w s := Iff.rfl

theorem exec_wr_cal (k : Fin 12) (v : Word) (s : State) :
    exec (.wr (offsetOf (.cal k)) v) s = .next (writeCal k v s) :=
  execWr_of_regAt v s (regAt_offsetOf (.cal k))

theorem exec_wr_adctIn (v : Word) (s : State) :
    exec (.wr (offsetOf .adctIn) v) s = .next (writeAdctIn v s) :=
  execWr_of_regAt v s (regAt_offsetOf .adctIn)

theorem transact_cons_of_next {i : Instr} {s t : State} (rest : List Instr) (h : exec i s = .next t) :
    transact (i :: rest) s = transact rest t := by
  rw [transact, h]

/-- Writing a table word over itself changes no more than which outputs are present. -/
theorem writeCal_of_holdsTable {w : Vector Half 12} {s : State} (h : HoldsTable w s) (k : Fin 12) :
    withoutCompensation (writeCal k (w[k].setWidth 32) s) = withoutCompensation s := by
  obtain ⟨hvalid, rfl⟩ := h
  have hbits : s.calV ||| BitVec.twoPow 12 k = s.calV := by
    rw [hvalid]
    exact BitVec.allOnes_or
  have hword : (s.cal[k].setWidth 32).extractLsb' 0 16 = s.cal[k] := by
    rw [BitVec.extractLsb'_setWidth_of_le (by decide), BitVec.extractLsb'_eq_self]
  have htable : s.cal.set k ((s.cal[k].setWidth 32).extractLsb' 0 16) = s.cal := by
    rw [hword]
    exact Vector.set_getElem_self ..
  simp only [withoutCompensation, writeCal, hbits, htable]

theorem transact_calWrites_of_holdsTable {w : Vector Half 12} (ks : List (Fin 12)) {s : State}
    (h : HoldsTable w s) :
    ∃ t, transact (ks.map fun k => .wr (offsetOf (.cal k)) (w[k].setWidth 32)) s = .next t ∧
      withoutCompensation t = withoutCompensation s := by
  induction ks generalizing s with
  | nil => exact ⟨s, rfl, rfl⟩
  | cons k ks ih =>
    have hsame := writeCal_of_holdsTable h k
    have hheld : HoldsTable w (writeCal k (w[k].setWidth 32) s) := by
      rwa [← holdsTable_withoutCompensation, hsame, holdsTable_withoutCompensation]
    obtain ⟨t, hrun, ht⟩ := ih hheld
    exact ⟨t, (transact_cons_of_next _ (exec_wr_cal k _ s)).trans hrun, ht.trans hsame⟩

/-! ## The measurement after it -/

/-- The statements of the measurement that follow the load of ADCT_IN. -/
def measurementTail (how : CompensateBy) (b : PressureBus) : List Stmt :=
  .ldadcp b.pressure[0] b.pressure[1] b.pressure[2] :: (compensateProgram how ++ pressureReads)

/-- The word the measurement writes to ADCT_IN, its first act on the CPD. -/
def temperatureLoad (b : PressureBus) : Word :=
  0x00#8 ++ b.temperature[0] ++ b.temperature[1] ++ b.temperature[2]

theorem pressureInvocation_issued (reload : Bool) (how : CompensateBy) {b : PressureBus} (h : b.fails = none) :
    (pressureInvocation reload how b).issued =
      (if reload then expandLdcal (calWords b.calibration) else []) ++
        .wr (offsetOf .adctIn) (temperatureLoad b) :: expandProgram (measurementTail how b) := by
  rw [pressureInvocation, h, runScript_none]
  cases reload <;> cases how <;> rfl

/-- The load of ADCT_IN makes both outputs absent itself (20_memory.md R51). -/
theorem writeAdctIn_withoutCompensation (v : Word) (s : State) :
    writeAdctIn v (withoutCompensation s) = writeAdctIn v s := rfl

theorem transact_adctIn_congr {s t : State} (v : Word) (rest : List Instr)
    (h : withoutCompensation t = withoutCompensation s) :
    transact (.wr (offsetOf .adctIn) v :: rest) t = transact (.wr (offsetOf .adctIn) v :: rest) s := by
  rw [transact_cons_of_next rest (exec_wr_adctIn v t), transact_cons_of_next rest (exec_wr_adctIn v s),
    ← writeAdctIn_withoutCompensation v t, h, writeAdctIn_withoutCompensation]

/-- Settles O52: the reload leaves a state that differs at most in the presence of the compensated outputs, and the
first write of the measurement makes these absent. -/
theorem cachedTableGivesTheSameResult : Obligations.CachedTableGivesTheSameResult := by
  intro how b s hfails hvalid hcal
  rw [pressureInvocation_issued false how hfails, pressureInvocation_issued true how hfails]
  obtain ⟨t, hload, ht⟩ := transact_calWrites_of_holdsTable (List.finRange 12) (s := s) ⟨hvalid, hcal⟩
  calc transact (.wr (offsetOf .adctIn) (temperatureLoad b) :: expandProgram (measurementTail how b)) s
      = transact (.wr (offsetOf .adctIn) (temperatureLoad b) :: expandProgram (measurementTail how b)) t :=
        (transact_adctIn_congr _ _ ht).symm
    _ = transact (expandLdcal (calWords b.calibration) ++
          .wr (offsetOf .adctIn) (temperatureLoad b) :: expandProgram (measurementTail how b)) s :=
        (transact_append _ _ s hload).symm

end Sys2Proof.Machine

/-! SUPPORT. The STATUS word (10_state.md R20) and the write of CMD (R19); then `Effect`, which says once what one
instruction can do to the state, and from it the first error (R21, R22), the valid bits (R23 to R25), the output
registers (R31, R32) and the invariants (R39). -/

namespace Sys2Proof.Machine

/-! ## The STATUS word -/

/-- Which field holds bit `i` of the STATUS word, from bit 0 up (10_state.md R20, R26). -/
theorem getLsbD_statusWord (s : State) {i : Nat} (hi : i < 32) :
    (statusWord s).getLsbD i =
      if i < 1 then s.err else if i < 4 then false else if i < 8 then s.errcode.getLsbD (i - 4)
      else if i < 9 then s.hin0V else if i < 10 then s.hin1V
      else if i < 11 then s.adctV else if i < 12 then s.adcpV
      else if i < 13 then s.houtV else if i < 14 then s.toutV else if i < 15 then s.poutV
      else if i < 16 then false else if i < 28 then s.calV.getLsbD (i - 16) else false := by
  refine BitVec.getLsbD_append.trans ?_
  simp only [BitVec.getLsbD_append]
  interval_cases i <;> simp

/-- Settles O15: the read answers the STATUS word, whose single bits and whose four wider fields are read off
`getLsbD_statusWord`. -/
theorem statusWordLayout : Obligations.StatusWordLayout := by
  intro s
  have bit {i : Nat} (hi : i < 32) := getLsbD_statusWord s hi
  refine ⟨statusWord s, rfl, bit (by decide), ?reserved, ?errcode, bit (by decide), bit (by decide), bit (by decide),
    bit (by decide), bit (by decide), bit (by decide), bit (by decide), bit (by decide), ?calV, ?top⟩
  all_goals
    refine BitVec.eq_of_getLsbD_eq fun i hi => ?_
    rw [BitVec.getLsbD_extractLsb', bit (by omega)]
    interval_cases i <;> rfl

/-! ## A write of CMD -/

theorem exec_wr_cmd (w : Word) (s : State) : exec (.wr 0x00#8 w) s = writeCommand w s := rfl

theorem perform_command (w : Word) (s : State) : perform (.command w) s = exec (.wr 0x00#8 w) s := by
  rw [exec_wr_cmd, writeCommand, perform, decode]
  cases decodeCommand w with
  | ok c => exact (runCommand_eq_exec c s).symm
  | error e => rfl

/-- Settles O5: a command word is decoded before any effect in both forms, and CMD has nothing to read. -/
theorem cmdWriteRunsTheCommand : Obligations.CmdWriteRunsTheCommand := by
  refine ⟨perform_command, fun c s => ?_, fun s => rfl⟩
  rw [exec_wr_cmd, writeCommand, decodeCommand_encodeCommand]
  exact runCommand_eq_exec c s

/-- Every transaction at the port is an instruction performed: an illegal command word is the write of that word. -/
theorem perform_eq_exec (r : Request) (s : State) : ∃ i, perform r s = exec i s := by
  cases r with
  | command w => exact ⟨_, perform_command w s⟩
  | transfer we off wdata =>
    cases we
    · exact ⟨.rd off, rfl⟩
    · exact ⟨.wr off wdata, rfl⟩

theorem commandOf_wr_cmd (w : Word) : commandOf (.wr 0x00#8 w) = (decodeCommand w).toOption := rfl

theorem commandOf_wr_offsetOf {r : Reg} (v : Word) (hr : r ≠ .cmd) : commandOf (.wr (offsetOf r) v) = none := by
  have hoff : offsetOf r ≠ 0x00#8 := by
    intro h
    have hreg := regAt_offsetOf r
    rw [h] at hreg
    exact hr (Option.some.inj hreg).symm
  simp [commandOf, hoff]

theorem commandOf_wr_of_bad {off : Offset} (v : Word) (h : regAt off = none) : commandOf (.wr off v) = none := by
  have hoff : off ≠ 0x00#8 := by rintro rfl; cases h
  simp [commandOf, hoff]

/-! ## What an instruction can do -/

/-- Stage 1's commit in the form whose fields Laws/State gives. -/
@[simp] theorem commitTemperature_eq (r : Stage1) (s : State) :
    commitTemperature r s = commitStage1 (adcT s) (pat32 r.tFine) (pat32 r.temp) s := rfl

/-- What an instruction can make of `s`, with what it found there. A command stands here in both its forms, as
`commandOf` says. -/
inductive Effect (s : State) : Instr → State → Prop
  | read (off : Offset) : Effect s (.rd off) (answer (readOffset off s) s)
  | htIn0 (v : Word) : Effect s (.wr (offsetOf .htIn0) v) (writeHtIn0 v s)
  | htIn1 (v : Word) : Effect s (.wr (offsetOf .htIn1) v) (writeHtIn1 v s)
  | adctIn (v : Word) : Effect s (.wr (offsetOf .adctIn) v) (writeAdctIn v s)
  | adcpIn (v : Word) : Effect s (.wr (offsetOf .adcpIn) v) (writeAdcpIn v s)
  | cal (k : Fin 12) (v : Word) : Effect s (.wr (offsetOf (.cal k)) v) (writeCal k v s)
  /-- A bad write, or an illegal command word (20_memory.md R47; 30_encoding.md R67). -/
  | refused {i : Instr} (code : ErrCode) (hc : commandOf i = none) : Effect s i (raiseError code noGroups s)
  /-- A command or an illegal command word that a recorded error gates (60_exceptions.md R149). -/
  | gated {i : Instr} (herr : s.err = true) (hclrerr : commandOf i ≠ some .clrerr)
      (hsrst : commandOf i ≠ some .srst) (hread : ∀ off, i ≠ .rd off) : Effect s i s
  | nop {i : Instr} (hc : commandOf i = some .nop) : Effect s i s
  | clrerr {i : Instr} (hc : commandOf i = some .clrerr) : Effect s i (clearError s)
  | srst {i : Instr} (hc : commandOf i = some .srst) : Effect s i (resetRegisters s)
  | clrcal {i : Instr} (hc : commandOf i = some .clrcal) : Effect s i (clearCalibration s)
  /-- A command that fails (60_exceptions.md R146). -/
  | failure {i : Instr} {c : Command} (code : ErrCode) (herr : s.err = false) (hc : commandOf i = some c) :
      Effect s i (raiseError code (groupsOf i) s)
  | decht {i : Instr} (hc : commandOf i = some .decht) (hin0 : s.hin0V = true) (hin1 : s.hin1V = true) :
      Effect s i (commitHumidity (humidityField (htSequence s)) (temperatureField (htSequence s)) s)
  | compt {i : Instr} (hc : commandOf i = some .compt) (hadc : s.adctV = true) (htab : stage1Loaded s = true) :
      Effect s i (commitTemperature (stage1Of s) s)
  | compp {i : Instr} {p : Word} (hc : commandOf i = some .compp) (hadc : s.adcpV = true)
      (htab : stage2Loaded s = true) (htout : s.toutV = true)
      (hp : pressureResult (adcP s).toNat (tFineOperand s) (pressureCoefs s) = .ok p) :
      Effect s i (commitStage2 (adcP s) p s)
  | comptp {i : Instr} {p : Word} (hc : commandOf i = some .comptp) (hadct : s.adctV = true)
      (htab1 : stage1Loaded s = true) (hadcp : s.adcpV = true) (htab2 : stage2Loaded s = true)
      (hp : pressureResult (adcP s).toNat (stage1Of s).tFine (pressureCoefs s) = .ok p) :
      Effect s i (commitStage2 (adcP s) p (commitTemperature (stage1Of s) s))

@[simp] theorem commandOf_rd (off : Offset) : commandOf (.rd off) = none := rfl

section
variable {i : Instr} {c : Command} {s t : State}

theorem ne_rd_of_commandOf (hc : commandOf i = some c) (off : Offset) : i ≠ .rd off := by
  rintro rfl
  cases hc

theorem Effect.of_gated {e : State → State} (hc : commandOf i = some c) (hclrerr : c ≠ .clrerr) (hsrst : c ≠ .srst)
    (h : s.err = false → Effect s i (e s)) : Effect s i (Machine.gated e s) := by
  obtain ⟨herr, heq⟩ | ⟨herr, heq⟩ := gated_cases e s
  · rw [heq]
    exact .gated herr (by simpa [hc] using hclrerr) (by simpa [hc] using hsrst) (ne_rd_of_commandOf hc)
  · rw [heq]
    exact h herr

/-- A command that can fail, where `hok` says what it is when it does not. -/
theorem Effect.of_committing {g : OutGroups} {b : State → Except ErrCode State} (hc : commandOf i = some c)
    (hclrerr : c ≠ .clrerr) (hsrst : c ≠ .srst) (hg : groupsOf i = g) (hok : ∀ t, b s = .ok t → Effect s i t) :
    Effect s i (Machine.gated (committing g b) s) := by
  refine .of_gated hc hclrerr hsrst fun herr => ?_
  obtain ⟨t, hb, heq⟩ | ⟨code, -, heq⟩ := committing_cases g b s
  · rw [heq]
    exact hok t hb
  · rw [heq, ← hg]
    exact .failure code herr hc

theorem Effect.of_dechtBody (hc : commandOf i = some .decht) (h : dechtBody s = .ok t) : Effect s i t := by
  obtain ⟨-, hb⟩ | ⟨hin0, hin1, hb⟩ := dechtBody_cases s <;> cases hb.symm.trans h
  exact .decht hc hin0 hin1

theorem Effect.of_comptBody (hc : commandOf i = some .compt) (h : comptBody s = .ok t) : Effect s i t := by
  obtain ⟨-, hb⟩ | ⟨-, -, hb⟩ | ⟨hadc, htab, hb⟩ := comptBody_cases s <;> cases hb.symm.trans h
  exact .compt hc hadc htab

theorem Effect.of_comppBody (hc : commandOf i = some .compp) (h : comppBody s = .ok t) : Effect s i t := by
  obtain ⟨-, hb⟩ | ⟨-, -, hb⟩ | ⟨-, -, -, hb⟩ | ⟨hadc, htab, htout, ⟨_, -, hb⟩ | ⟨p, hp, hb⟩⟩ :=
    comppBody_cases s <;> cases hb.symm.trans h
  exact .compp hc hadc htab htout hp

theorem Effect.of_comptpBody (hc : commandOf i = some .comptp) (h : comptpBody s = .ok t) : Effect s i t := by
  obtain ⟨-, hb⟩ | ⟨-, -, hb⟩ | ⟨-, -, -, hb⟩ | ⟨-, -, -, -, hb⟩ |
    ⟨hadct, htab1, hadcp, htab2, ⟨_, -, hb⟩ | ⟨p, hp, hb⟩⟩ := comptpBody_cases s <;> cases hb.symm.trans h
  exact .comptp hc hadct htab1 hadcp htab2 hp

theorem Effect.of_runCommand (hc : commandOf i = some c) (h : runCommand c s = .next t) : Effect s i t := by
  cases c with cases h
  | nop => exact .nop hc
  | decht => exact .of_committing hc nofun nofun (by simp [groupsOf, hc, dechtGroups]) fun _ => .of_dechtBody hc
  | compt => exact .of_committing hc nofun nofun (by simp [groupsOf, hc, comptGroups]) fun _ => .of_comptBody hc
  | compp => exact .of_committing hc nofun nofun (by simp [groupsOf, hc, comppGroups]) fun _ => .of_comppBody hc
  | comptp => exact .of_committing hc nofun nofun (by simp [groupsOf, hc, comptpGroups]) fun _ => .of_comptpBody hc
  | clrcal => exact .of_gated hc nofun nofun fun _ => .clrcal hc
  | clrerr => exact .clrerr hc
  | srst => exact .srst hc

theorem Effect.of_writeCommand {w : Word} (h : writeCommand w s = .next t) : Effect s (.wr 0x00#8 w) t := by
  obtain ⟨c, hw, heq⟩ | ⟨e, hw, heq⟩ := writeCommand_cases w s
  · exact .of_runCommand (by rw [commandOf_wr_cmd, hw]; rfl) (heq.symm.trans h)
  · have hc : commandOf (.wr 0x00#8 w) = none := by rw [commandOf_wr_cmd, hw]; rfl
    cases heq.symm.trans h
    obtain ⟨herr, heq⟩ | ⟨-, heq⟩ := gated_cases (raiseError .illegalCmd noGroups) s
    · rw [illegalCommand, heq]
      exact .gated herr (by simp [hc]) (by simp [hc]) nofun
    · rw [illegalCommand, heq]
      exact .refused _ hc

theorem Effect.of_writeReg {r : Reg} {v : Word} (h : writeReg r v s = .next t) :
    Effect s (.wr (offsetOf r) v) t := by
  cases r with
  | cmd => exact .of_writeCommand h
  | htIn0 => cases h; exact .htIn0 v
  | htIn1 => cases h; exact .htIn1 v
  | adctIn => cases h; exact .adctIn v
  | adcpIn => cases h; exact .adcpIn v
  | cal k => cases h; exact .cal k v
  | _ => cases h; exact .refused _ (commandOf_wr_offsetOf v nofun)

theorem Effect.of_execWr {off : Offset} {v : Word} (h : execWr off v s = .next t) : Effect s (.wr off v) t := by
  cases hr : regAt off with
  | some r =>
    rw [execWr_of_regAt v s hr] at h
    rw [← offsetOf_of_regAt hr]
    exact .of_writeReg h
  | none =>
    cases (execWr_of_bad v s hr).symm.trans h
    exact .refused _ (commandOf_wr_of_bad v hr)

/-- The inversion of `exec`: every instruction's whole effect is one of `Effect`'s. -/
theorem Effect.of_exec (h : exec i s = .next t) : Effect s i t := by
  cases i with
  | rd off => cases h; exact .read off
  | wr off v => exact .of_execWr h
  | _ => exact .of_runCommand rfl h

end

/-! ## The first error, the valid bits and the output registers -/

/-- Settles O39: a case per effect; what records an error keeps a code that stands, and no success touches either. -/
theorem firstErrorIsKept : Obligations.FirstErrorIsKept := by
  intro i s t herr hexec
  cases Effect.of_exec hexec with
  | clrerr hc => simp [hc]
  | srst hc => simp [hc]
  | gated _ hclrerr hsrst _ => simp [hclrerr, hsrst, herr]
  | read off => simp [herr]
  | htIn0 v => simp [commandOf_wr_offsetOf, herr]
  | htIn1 v => simp [commandOf_wr_offsetOf, herr]
  | adctIn v => simp [commandOf_wr_offsetOf, herr]
  | adcpIn v => simp [commandOf_wr_offsetOf, herr]
  | cal k v => simp [commandOf_wr_offsetOf, herr]
  | refused code hc => simp [hc, herr]
  | nop hc => simp [hc, herr]
  | clrcal hc => simp [hc, herr]
  | failure code hno _ => simp [herr] at hno
  | decht hc _ _ => simp [hc, herr]
  | compt hc _ _ => simp [hc, herr]
  | compp hc _ _ _ _ => simp [hc, herr]
  | comptp hc _ _ _ _ _ => simp [hc, herr]

/-- Settles O45: the four commits write the output registers, each with its command; no other effect but SRST's does. -/
theorem outputsWrittenOnlyBySuccess : Obligations.OutputsWrittenOnlyBySuccess := by
  intro i s t hexec hsrst
  cases Effect.of_exec hexec with
  | srst hc => exact absurd hc hsrst
  | decht hc _ _ => simp [hc]
  | compt hc _ _ => simp [hc]
  | compp hc _ _ _ _ => simp [hc]
  | comptp hc _ _ _ _ _ => simp [hc]
  | _ => simp

theorem getLsbD_calV_writeCal {s : State} (k : Fin 12) (v : Word) {j : Nat} (h : s.calV.getLsbD j = true) :
    (writeCal k v s).calV.getLsbD j = true := by
  simp [h]

/-- Settles O46: a write of CALk adds to CAL_V, and CLRCAL alone empties it. -/
theorem inputValidBitsStay : Obligations.InputValidBitsStay := by
  intro i s t hexec hsrst
  cases Effect.of_exec hexec with
  | srst hc => exact absurd hc hsrst
  | clrcal hc => simp [hc]
  | cal k v =>
    refine ⟨id, id, id, id, ?_⟩
    rintro ⟨j, hset, hcleared⟩
    cases hcleared.symm.trans (getLsbD_calV_writeCal k v hset)
  | _ => simp +contextual

/-! ## Stage 1 stays in 32 bits -/

theorem abs_asr_le {x M : Int} {k : Nat} (h : |x| ≤ M * 2 ^ k) : |asr x k| ≤ M := by
  have hk : (0 : Int) < 2 ^ k := by positivity
  rw [abs_le] at h ⊢
  exact ⟨Int.le_ediv_of_mul_le hk (by linarith), Int.ediv_le_of_le_mul hk h.2⟩

theorem abs_mul_le {a b A B : Int} (ha : |a| ≤ A) (hb : |b| ≤ B) : |a * b| ≤ A * B := by
  rw [abs_mul]
  exact mul_le_mul ha hb (abs_nonneg b) ((abs_nonneg a).trans ha)

/-- t_fine has room to spare in the 32 bits of TFINE. -/
theorem abs_compT_tFine_le {adc t1 t2 t3 : Int} (hadc : 0 ≤ adc ∧ adc < 2 ^ 20) (h1 : 0 ≤ t1 ∧ t1 ≤ 65535)
    (h2 : |t2| ≤ 2 ^ 15) (h3 : |t3| ≤ 2 ^ 15) : |(compT adc t1 t2 t3).tFine| ≤ 2 ^ 23 := by
  have hvar1 : |stage1Var1 adc t1 t2| ≤ 2 ^ 22 := by
    have hx : |asr adc 3 - shl t1 1| ≤ 2 ^ 18 := by
      rw [abs_le, asr, shl]
      omega
    exact abs_asr_le ((abs_mul_le hx h2).trans (by norm_num))
  have hvar2 : |stage1Var2 adc t1 t3| ≤ 2 ^ 22 := by
    have hd : |asr adc 4 - t1| ≤ 2 ^ 16 := by
      rw [abs_le, asr]
      omega
    have hsq : |asr ((asr adc 4 - t1) * (asr adc 4 - t1)) 12| ≤ 2 ^ 20 :=
      abs_asr_le ((abs_mul_le hd hd).trans (by norm_num))
    exact abs_asr_le ((abs_mul_le hsq h3).trans (by norm_num))
  calc |stage1Var1 adc t1 t2 + stage1Var2 adc t1 t3|
      ≤ |stage1Var1 adc t1 t2| + |stage1Var2 adc t1 t3| := abs_add_le _ _
    _ ≤ 2 ^ 23 := by omega

theorem abs_coef_le {k : Fin 12} (hk : coefUnsigned k = false) (s : State) : |coef k s| ≤ 2 ^ 15 := by
  have hb := interpretCoef_signed s.cal[k] hk
  rw [abs_le, coef]
  omega

theorem abs_stage1Of_tFine_le (s : State) : |(stage1Of s).tFine| ≤ 2 ^ 23 := by
  have hadc : (0 : Int) ≤ (adcT s).toNat ∧ ((adcT s).toNat : Int) < 2 ^ 20 := by
    have := (adcT s).isLt
    omega
  have h1 : 0 ≤ coef 0 s ∧ coef 0 s ≤ 65535 := interpretCoef_unsigned _ rfl
  exact abs_compT_tFine_le hadc h1 (abs_coef_le rfl s) (abs_coef_le rfl s)

/-- TFINE gives t_fine back whole, so COMPTP's stage 2 and COMPP's take the same value (41_compensation.md R115). -/
theorem sext32_pat32_stage1Of (s : State) : sext32 (pat32 (stage1Of s).tFine) = (stage1Of s).tFine := by
  have hb := abs_le.mp (abs_stage1Of_tFine_le s)
  exact toInt_pat32 (by omega) (by omega)

/-! ## What a write of CALk leaves of the table -/

theorem stage1Loaded_writeCal {s : State} (k : Fin 12) (v : Word) (h : stage1Loaded s = true) :
    stage1Loaded (writeCal k v s) = true := by
  rw [stage1Loaded, beq_iff_eq] at h ⊢
  rw [writeCal_calV, BitVec.extractLsb'_or, h]
  exact BitVec.allOnes_or

theorem coef_writeCal_of_ne {j k : Fin 12} (v : Word) (s : State) (h : k ≠ j) :
    coef j (writeCal k v s) = coef j s := by
  have hne : k.val ≠ j.val := fun hv => h (Fin.ext hv)
  simp only [coef, writeCal_cal, Fin.getElem_fin, Vector.getElem_set_ne _ _ hne]

/-- CAL3 to CAL11 are no operands of stage 1 (41_compensation.md R100). -/
theorem stage1Of_writeCal {k : Fin 12} (v : Word) (s : State) (h : ¬ k.val < 3) :
    stage1Of (writeCal k v s) = stage1Of s := by
  have hne {j : Fin 12} (hj : j.val < 3) : k ≠ j := by
    rintro rfl
    exact h hj
  simp only [stage1Of, adcT, writeCal_adctIn, coef_writeCal_of_ne v s (hne (j := 0) (by decide)),
    coef_writeCal_of_ne v s (hne (j := 1) (by decide)), coef_writeCal_of_ne v s (hne (j := 2) (by decide))]

/-! ## The invariants of 10_state.md R39, operation by operation -/

/-- Settles O42: no output is present, and no error is recorded. -/
theorem invariantAtReset : Obligations.InvariantAtReset where
  pressure_with_temperature := nofun
  temperature_inputs := nofun
  pressure_inputs := nofun
  humidity_inputs := nofun
  no_error_no_code _ := rfl
  error_code_legal := nofun
  temperature_current := nofun
  pressure_current := nofun
  humidity_current := nofun

/-- The registers after SRST or `rst` are those of reset, whatever the state was. -/
theorem invariant_resetRegisters (s : State) : Invariant (resetRegisters s) :=
  have hreset : Invariant State.reset := invariantAtReset
  { hreset with }

/-- A stored pressure is the result of stage 2, which the range check keeps whole in POUT (41_compensation.md R113). -/
theorem compP_of_pressureResult {adc f : Int} {c : PressureCoefs} {p : Word} (h : pressureResult adc f c = .ok p) :
    compP adc f c = some (p.toNat : Int) := by
  obtain ⟨r, hr, h0, hmax, rfl⟩ := pressureResult_ok h
  rw [hr, toNat_pat32 h0 hmax]

/-- An operation that writes stage 1's outputs writes stage 2's too (60_exceptions.md R146). -/
theorem groupsOf_p_of_t {i : Instr} (h : (groupsOf i).t = true) : (groupsOf i).p = true := by
  unfold groupsOf at h ⊢
  split at h <;> simp_all [noGroups]

theorem codeBits_legal (code : ErrCode) : 1 ≤ (codeBits code).toNat ∧ (codeBits code).toNat ≤ 7 := by
  cases code <;> decide

section
variable {s : State} (hi : Invariant s)
include hi

theorem Invariant.beginEvent (rest : List PortEvent) : Invariant (beginEvent rest s) := { hi with }

theorem Invariant.answer (v : Word) : Invariant (answer v s) := { hi with }

theorem Invariant.clearError : Invariant (clearError s) :=
  { hi with no_error_no_code := fun _ => rfl, error_code_legal := nofun }

/-- Clearing valid bits is harmless where the pressure goes with the temperature. -/
theorem Invariant.raiseError (code : ErrCode) {g : OutGroups} (hg : g.t = true → g.p = true) :
    Invariant (raiseError code g s) where
  pressure_with_temperature h := by
    obtain ⟨hpout, hgp⟩ : s.poutV = true ∧ g.p = false := by simpa using h
    have hgt : g.t = false := by simpa [hgp] using hg
    simp [hi.pressure_with_temperature hpout, hgt]
  temperature_inputs h := hi.temperature_inputs (Bool.and_elim_left h)
  pressure_inputs h := hi.pressure_inputs (Bool.and_elim_left h)
  humidity_inputs h := hi.humidity_inputs (Bool.and_elim_left h)
  no_error_no_code := nofun
  error_code_legal _ := by
    cases herr : s.err
    · simpa [herr] using codeBits_legal code
    · simpa [herr] using hi.error_code_legal herr
  temperature_current h := hi.temperature_current (Bool.and_elim_left h)
  pressure_current h := hi.pressure_current (Bool.and_elim_left h)
  humidity_current h := hi.humidity_current (Bool.and_elim_left h)

theorem Invariant.writeHtIn0 (v : Word) : Invariant (writeHtIn0 v s) :=
  { hi with humidity_inputs := nofun, humidity_current := nofun }

theorem Invariant.writeHtIn1 (v : Word) : Invariant (writeHtIn1 v s) :=
  { hi with humidity_inputs := nofun, humidity_current := nofun }

theorem Invariant.writeAdctIn (v : Word) : Invariant (writeAdctIn v s) :=
  { hi with
    pressure_with_temperature := nofun, temperature_inputs := nofun, pressure_inputs := nofun
    temperature_current := nofun, pressure_current := nofun }

theorem Invariant.writeAdcpIn (v : Word) : Invariant (writeAdcpIn v s) :=
  { hi with pressure_with_temperature := nofun, pressure_inputs := nofun, pressure_current := nofun }

/-- CAL0 to CAL2 make both compensated outputs absent; a later word leaves stage 1 its operands. -/
theorem Invariant.writeCal (k : Fin 12) (v : Word) : Invariant (writeCal k v s) :=
  { hi with
    pressure_with_temperature := nofun, pressure_inputs := nofun, pressure_current := nofun
    temperature_inputs := fun h => by
      obtain ⟨htout, -⟩ : s.toutV = true ∧ ¬ k.val < 3 := by simpa using h
      obtain ⟨hadc, htab⟩ := hi.temperature_inputs htout
      exact ⟨hadc, stage1Loaded_writeCal k v htab⟩
    temperature_current := fun h => by
      obtain ⟨htout, hk⟩ : s.toutV = true ∧ ¬ k.val < 3 := by simpa using h
      rw [stage1Of_writeCal v s hk]
      exact hi.temperature_current htout }

theorem Invariant.clearCalibration : Invariant (clearCalibration s) :=
  { hi with
    pressure_with_temperature := nofun, temperature_inputs := nofun, pressure_inputs := nofun
    temperature_current := nofun, pressure_current := nofun }

theorem Invariant.decht (hin0 : s.hin0V = true) (hin1 : s.hin1V = true) :
    Invariant (commitHumidity (humidityField (htSequence s)) (temperatureField (htSequence s)) s) :=
  { hi with humidity_inputs := fun _ => ⟨hin0, hin1⟩, humidity_current := fun _ => ⟨rfl, rfl⟩ }

/-- A pressure that stays present was computed from the TFINE that is written again (I-f). -/
theorem Invariant.compt (hadc : s.adctV = true) (htab : stage1Loaded s = true) :
    Invariant (commitTemperature (stage1Of s) s) :=
  { hi with
    pressure_with_temperature := fun _ => rfl
    temperature_inputs := fun _ => ⟨hadc, htab⟩
    temperature_current := fun _ => ⟨rfl, rfl, rfl⟩
    pressure_current := fun h => by
      obtain ⟨-, htfine, -⟩ := hi.temperature_current (hi.pressure_with_temperature h)
      obtain ⟨hup, hpout⟩ := hi.pressure_current h
      rw [tFineOperand, htfine] at hpout
      exact ⟨hup, hpout⟩ }

theorem Invariant.compp {p : Word} (hadc : s.adcpV = true) (htab : stage2Loaded s = true) (htout : s.toutV = true)
    (hp : pressureResult (adcP s).toNat (tFineOperand s) (pressureCoefs s) = .ok p) :
    Invariant (commitStage2 (adcP s) p s) :=
  { hi with
    pressure_with_temperature := fun _ => htout
    pressure_inputs := fun _ => ⟨hadc, htab⟩
    pressure_current := fun _ => ⟨rfl, compP_of_pressureResult hp⟩ }

/-- COMPTP is stage 1's commit and then stage 2's on the TFINE it leaves. -/
theorem Invariant.comptp {p : Word} (hadct : s.adctV = true) (htab1 : stage1Loaded s = true)
    (hadcp : s.adcpV = true) (htab2 : stage2Loaded s = true)
    (hp : pressureResult (adcP s).toNat (stage1Of s).tFine (pressureCoefs s) = .ok p) :
    Invariant (commitStage2 (adcP s) p (commitTemperature (stage1Of s) s)) := by
  refine (hi.compt hadct htab1).compp hadcp htab2 rfl ?_
  rw [← sext32_pat32_stage1Of s] at hp
  exact hp

end

/-! ## The invariants, at every step -/

theorem Effect.keeps_invariant {i : Instr} {s t : State} (he : Effect s i t) (hi : Invariant s) : Invariant t := by
  cases he with
  | read off => exact hi.answer _
  | htIn0 v => exact hi.writeHtIn0 v
  | htIn1 v => exact hi.writeHtIn1 v
  | adctIn v => exact hi.writeAdctIn v
  | adcpIn v => exact hi.writeAdcpIn v
  | cal k v => exact hi.writeCal k v
  | refused code _ => exact hi.raiseError code nofun
  | gated _ _ _ _ => exact hi
  | nop _ => exact hi
  | clrerr _ => exact hi.clearError
  | srst _ => exact invariant_resetRegisters s
  | clrcal _ => exact hi.clearCalibration
  | failure code _ _ => exact hi.raiseError code groupsOf_p_of_t
  | decht _ hin0 hin1 => exact hi.decht hin0 hin1
  | compt _ hadc htab => exact hi.compt hadc htab
  | compp _ hadc htab htout hp => exact hi.compp hadc htab htout hp
  | comptp _ hadct htab1 hadcp htab2 hp => exact hi.comptp hadct htab1 hadcp htab2 hp

/-- Settles O43: a step is idle, a reset, or one instruction's effect, each of which keeps the invariants. -/
theorem everyStepKeepsInvariant : Obligations.EveryStepKeepsInvariant := by
  intro s t hi hstep
  obtain ⟨-, heq⟩ | ⟨rest, -, heq⟩ | ⟨r, rest, -, heq⟩ | ⟨r, rest, -, heq⟩ := step_cases s
  · cases heq.symm.trans hstep
    exact hi
  · cases heq.symm.trans hstep
    exact invariant_resetRegisters _
  · obtain ⟨i, hperform⟩ := perform_eq_exec r (beginEvent rest s)
    have hexec := hperform.symm.trans (heq.symm.trans hstep)
    exact (Effect.of_exec hexec).keeps_invariant (hi.beginEvent rest)
  · cases heq.symm.trans hstep

end Sys2Proof.Machine

/-! SUPPORT. The memory interface (20_memory.md): the port and its step (R41, R43, R59), the address map with its bad
accesses (R45 to R47), and what the input registers store and read back (R48 to R51). -/

namespace Sys2Proof.Machine

/-! ## The port -/

/-- What each effect leaves at the port (entries 1 and 2): all that the host has still to ask, and the read data but
for a read's. -/
theorem Effect.keeps_port {i : Instr} {s t : State} (he : Effect s i t) :
    t.pending = s.pending ∧ ((∀ off, i ≠ .rd off) → t.reply = s.reply) := by
  cases he with
  | read off => exact ⟨rfl, fun hread => absurd rfl (hread off)⟩
  | _ => exact ⟨rfl, fun _ => rfl⟩

/-- Settles O47: no effect but a read's writes a port field. -/
theorem portFrame : Obligations.PortFrame := fun _ _ _ h => (Effect.of_exec h).keeps_port

/-! ## The step, by what stands first at the port -/

section
variable {s : State} {r : Request} {rest : List PortEvent}

theorem step_of_idle (h : s.pending = []) : step s = .next s := by
  simp [step, h]

theorem step_of_host (h : s.pending = .transaction .host r :: rest) : step s = perform r (beginEvent rest s) := by
  simp [step, h]

theorem step_of_other (h : s.pending = .transaction .other r :: rest) : step s = .refused .secondHost := by
  simp [step, h]

end

/-- Settles O8: an event is taken off before it is performed, and what it does leaves the rest (R43). -/
theorem stepTakesTheFirstEvent : Obligations.StepTakesTheFirstEvent := by
  refine ⟨fun s t hstep => ?_, fun s => step_of_idle⟩
  obtain ⟨hp, heq⟩ | ⟨rest, hp, heq⟩ | ⟨r, rest, hp, heq⟩ | ⟨r, rest, hp, heq⟩ := step_cases s
  · cases heq.symm.trans hstep
    simp [hp]
  · cases heq.symm.trans hstep
    simp [hp]
  · obtain ⟨i, hperform⟩ := perform_eq_exec r (beginEvent rest s)
    have hexec : exec i (beginEvent rest s) = .next t := hperform.symm.trans (heq.symm.trans hstep)
    obtain ⟨hpending, -⟩ := portFrame i _ t hexec
    simp [hpending, hp]
  · cases heq.symm.trans hstep

/-- Settles O10: the step's arm for an agent other than the host (R59). -/
theorem secondHostIsRefused : Obligations.SecondHostIsRefused := fun _ _ _ => step_of_other

/-! ## Errors that clear no valid bit -/

theorem raiseError_noGroups_of_no_err {s : State} (code : ErrCode) (h : s.err = false) :
    raiseError code noGroups s = { s with err := true, errcode := codeBits code } := by
  simp [raiseError, noGroups, h]

theorem raiseError_noGroups_of_err {s : State} (code : ErrCode) (h : s.err = true) :
    raiseError code noGroups s = s := by
  cases s
  cases h
  simp [raiseError, noGroups]

theorem illegalCommand_of_no_err {s : State} (h : s.err = false) :
    illegalCommand s = { s with err := true, errcode := 0x1#4 } :=
  (gated_of_no_err h).trans (raiseError_noGroups_of_no_err .illegalCmd h)

/-! ## What the step performs -/

theorem perform_of_decode {r : Request} {i : Instr} (s : State) (h : decode r = .ok i) : perform r s = exec i s := by
  simp [perform, h]

theorem perform_of_refused {r : Request} {e : DecodeError} (s : State) (h : decode r = .error e) :
    perform r s = .next (illegalCommand s) := by
  simp [perform, h]

/-- Each transaction in the port's own form is a WR or an RD (R41), so only a command word is refused. -/
theorem exists_command_of_decode_error {r : Request} {e : DecodeError} (h : decode r = .error e) :
    ∃ w, r = .command w := by
  cases r with
  | command w => exact ⟨w, rfl⟩
  | transfer we off wdata => cases we <;> cases h

/-- Settles O6: the decoded instruction, or the illegal command word as the write of CMD it is. -/
theorem stepRunsTheDecodedInstruction : Obligations.StepRunsTheDecodedInstruction := by
  intro s r rest hp
  refine ⟨fun i hdec _ => (step_of_host hp).trans (perform_of_decode _ hdec), fun e hdec => ?_⟩
  have hstep : step s = .next (illegalCommand (beginEvent rest s)) :=
    (step_of_host hp).trans (perform_of_refused _ hdec)
  obtain ⟨w, rfl⟩ := exists_command_of_decode_error hdec
  refine ⟨w, rfl, (step_of_host hp).trans (perform_command w _), fun herr => ?_, fun herr => ?_⟩
  · exact hstep.trans (congrArg _ (illegalCommand_of_no_err (s := beginEvent rest s) herr))
  · exact hstep.trans (congrArg _ (gated_of_err (s := beginEvent rest s) herr))

/-! ## The address map -/

theorem readOffset_offsetOf (r : Reg) (s : State) : readOffset (offsetOf r) s = readReg r s := by
  simp [readOffset, regAt_offsetOf]

theorem readOffset_of_bad {off : Offset} (s : State) (h : regAt off = none) : readOffset off s = 0#32 := by
  simp [readOffset, h]

theorem exec_wr_offsetOf (r : Reg) (v : Word) (s : State) : exec (.wr (offsetOf r) v) s = writeReg r v s :=
  execWr_of_regAt v s (regAt_offsetOf r)

theorem writeReg_of_readOnly {r : Reg} (v : Word) (s : State) (h : accessOf r = .readOnly) :
    writeReg r v s = .next (badWrite s) := by
  cases r <;> cases h <;> rfl

theorem calOffset_eq (k : Fin 12) : calOffset k = offsetOf (.cal k) := by
  revert k
  decide

theorem offsetOf_cal_bounds (k : Fin 12) :
    (offsetOf (.cal k)).toNat % 4 = 0 ∧ 0x18 ≤ (offsetOf (.cal k)).toNat ∧ (offsetOf (.cal k)).toNat ≤ 0x44 := by
  revert k
  decide

/-! ## Bad accesses -/

theorem readOnly_of_badWriteOffset {r : Reg} (h : BadWriteOffset (offsetOf r)) : accessOf r = .readOnly := by
  cases r with
  | cal k =>
    have hb := offsetOf_cal_bounds k
    simp only [BadWriteOffset, List.mem_cons, List.not_mem_nil, or_false] at h
    omega
  | _ => simp_all [BadWriteOffset, offsetOf, accessOf]

theorem eq_cmd_of_badReadOffset {r : Reg} (h : BadReadOffset (offsetOf r)) : r = .cmd := by
  cases r with
  | cal k =>
    have hb := offsetOf_cal_bounds k
    rw [BadReadOffset] at h
    omega
  | _ => simp_all [BadReadOffset, offsetOf]

theorem exec_wr_of_badWriteOffset {off : Offset} (v : Word) (s : State) (h : BadWriteOffset off) :
    exec (.wr off v) s = .next (badWrite s) := by
  cases hr : regAt off with
  | none => exact execWr_of_bad v s hr
  | some r =>
    rw [← offsetOf_of_regAt hr] at h ⊢
    rw [exec_wr_offsetOf, writeReg_of_readOnly v s (readOnly_of_badWriteOffset h)]

theorem readOffset_of_badReadOffset {off : Offset} (s : State) (h : BadReadOffset off) : readOffset off s = 0#32 := by
  cases hr : regAt off with
  | none => exact readOffset_of_bad s hr
  | some r =>
    rw [← offsetOf_of_regAt hr] at h ⊢
    rw [readOffset_offsetOf, eq_cmd_of_badReadOffset h, readReg]

/-- Settles O16: a bad offset names no register or one without that access, and BAD_ACCESS clears no valid bit. -/
theorem badAccesses : Obligations.BadAccesses := by
  refine ⟨fun off v s hbad => ?_, fun off s hbad => ?_⟩
  · rw [exec_wr_of_badWriteOffset v s hbad, badWrite]
    refine ⟨fun herr => ?_, fun herr => ?_⟩
    · rw [raiseError_noGroups_of_no_err _ herr, codeBits]
    · rw [raiseError_noGroups_of_err _ herr]
  · rw [exec_rd, readOffset_of_badReadOffset s hbad, answer]

/-! ## A calibration word and its interpreted value -/

theorem coefUnsigned_iff (k : Fin 12) : coefUnsigned k = true ↔ k = 0 ∨ k = 3 := by
  revert k
  decide

theorem interpretCoef_eq_toInt (k : Fin 12) (w : Half) :
    interpretCoef k w = if k = 0 ∨ k = 3 then (w.toNat : Int) else w.toInt := by
  simp only [interpretCoef, coefUnsigned_iff, s16_eq_toInt]

/-- The interpreted value in the terms of R30: only a signed entry of 32768 and more reads as negative. -/
theorem interpretCoef_eq_toNat (k : Fin 12) (w : Half) :
    interpretCoef k w = if (k = 0 ∨ k = 3) ∨ w.toNat < 32768 then (w.toNat : Int) else w.toNat - 65536 := by
  rw [interpretCoef_eq_toInt, ← s16_eq_toInt]
  by_cases hk : k = 0 ∨ k = 3
  · simp only [hk, if_true, true_or]
  · simp only [hk, if_false, false_or, s16, ← not_lt, ite_not]

theorem toInt_readReg_cal (k : Fin 12) (s : State) : (readReg (.cal k) s).toInt = interpretCoef k s.cal[k] := by
  have hb := interpretCoef_bounds k s.cal[k]
  rw [readReg, coef]
  exact toInt_pat32 (by omega) (by omega)

/-! ## Reads -/

/-- Settles O14: each offset's register and its value; the registers narrower than a word read zero-extended. -/
theorem readsReturnTheRegister : Obligations.ReadsReturnTheRegister := by
  intro s
  refine ⟨fun off => exec_rd off s, readOffset_offsetOf .status s, readOffset_offsetOf .htIn0 s, ?_, ?_, ?_,
    fun k => ?cal, ?_, ?_, ?_, readOffset_offsetOf .tfine s, readOffset_offsetOf .tout s, ?_,
    readOffset_offsetOf .pout s⟩
  case cal => rw [calOffset_eq, readOffset_offsetOf, toInt_readReg_cal, interpretCoef_eq_toInt]
  all_goals exact BitVec.toNat_setWidth_of_le (by decide)

/-! ## Writes of the input registers -/

theorem getElem_cal_writeCal (k j : Fin 12) (v : Word) (s : State) :
    (writeCal k v s).cal[j] = if j = k then v.extractLsb' 0 16 else s.cal[j] := by
  simp [Vector.getElem_set, Fin.val_inj, eq_comm]

theorem getLsbD_calV_writeCal_eq (k j : Fin 12) (v : Word) (s : State) :
    (writeCal k v s).calV.getLsbD j = (decide (j = k) || s.calV.getLsbD j) := by
  simp [Fin.val_inj, eq_comm, Bool.or_comm]

/-- CAL0 to CAL2 make the temperature absent, a later word leaves it (R51). -/
theorem toutV_writeCal (k : Fin 12) (v : Word) (s : State) :
    (writeCal k v s).toutV = if k.val < 3 then false else s.toutV := by
  by_cases hk : k.val < 3 <;> simp [hk]

/-- Settles O17: each write is its operation on the state; a write of CALk changes one word and one bit of CAL_V. -/
theorem inputWritesStoreAndInvalidate : Obligations.InputWritesStoreAndInvalidate := by
  intro v s
  refine ⟨exec_wr_offsetOf .htIn0 v s, exec_wr_offsetOf .htIn1 v s, exec_wr_offsetOf .adctIn v s,
    exec_wr_offsetOf .adcpIn v s, fun k => ⟨writeCal k v s, ?run, ?frame, fun j => getElem_cal_writeCal k j v s,
      fun j => getLsbD_calV_writeCal_eq k j v s⟩⟩
  case run => rw [calOffset_eq, exec_wr_cal]
  case frame =>
    rw [← toutV_writeCal k v s]
    rfl

/-! ## What a write of an input register reads back as -/

theorem exists_reg_of_inputOffset {off : Offset} (h : InputOffset off) :
    ∃ r, off = offsetOf r ∧ accessOf r = .readWrite := by
  have all : ∀ o : Offset, InputOffset o → (regAt o).map accessOf = some .readWrite := by
    unfold InputOffset
    decide
  obtain ⟨r, hr, hacc⟩ := Option.map_eq_some_iff.mp (all off h)
  exact ⟨r, (offsetOf_of_regAt hr).symm, hacc⟩

theorem exists_writeReg_next {r : Reg} (v : Word) (s : State) (h : accessOf r = .readWrite) :
    ∃ t, writeReg r v s = .next t := by
  cases r <;> cases h <;> exact ⟨_, rfl⟩

/-- The bits of a word below `n`, read back as a word: the ignored ones are 0 (R49). -/
theorem setWidth_extractLsb'_eq_and (v : Word) {n : Nat} (h : n ≤ 32) :
    (v.extractLsb' 0 n).setWidth 32 = v &&& BitVec.ofNat 32 (2 ^ n - 1) := by
  have hlt : 2 ^ n - 1 < 2 ^ 32 := by
    have := Nat.pow_le_pow_right (n := 2) (by decide) h
    omega
  apply BitVec.eq_of_toNat_eq
  rw [BitVec.toNat_setWidth_of_le h, BitVec.extractLsb'_toNat, BitVec.toNat_and, BitVec.toNat_ofNat,
    Nat.mod_eq_of_lt hlt, Nat.and_two_pow_sub_one_eq_mod, Nat.shiftRight_zero]

section
variable {r : Reg} {v : Word} {s t : State}

/-- HT_IN0 to ADCP_IN, whose stored bits read back zero-extended. -/
theorem readReg_writeReg_same (hacc : accessOf r = .readWrite) (h : writeReg r v s = .next t)
    (hlow : (offsetOf r).toNat < 0x18) : readReg r t = v &&& storedMask (offsetOf r) := by
  cases r with
  | htIn0 => cases h; exact (BitVec.and_allOnes (x := v)).symm
  | htIn1 | adctIn | adcpIn => cases h; exact setWidth_extractLsb'_eq_and v (n := 24) (by decide)
  | cal k =>
    obtain ⟨-, hhigh, -⟩ := offsetOf_cal_bounds k
    exact absurd hlow hhigh.not_gt
  | _ => cases hacc

/-- No register but STATUS shares a field with the one written; two calibration words have different indices. -/
theorem readReg_writeReg_of_ne {q : Reg} (hacc : accessOf r = .readWrite) (h : writeReg r v s = .next t)
    (hq : q ≠ r) (hstatus : q ≠ .status) : readReg q t = readReg q s := by
  cases r with
  | cal k =>
    cases h
    cases q with
    | status => exact absurd rfl hstatus
    | cal j => exact congrArg pat32 (coef_writeCal_of_ne v s (ne_of_apply_ne Reg.cal hq.symm))
    | _ => rfl
  | _ =>
    cases hacc <;> cases h <;> cases q with
    | status => exact absurd rfl hstatus
    | cal j => rfl
    | _ => simp_all [readReg]

theorem exists_cal_of_readWrite (hacc : accessOf r = .readWrite) (hhigh : 0x18 ≤ (offsetOf r).toNat) :
    ∃ k, r = .cal k := by
  cases r with
  | cal k => exact ⟨k, rfl⟩
  | _ => simp_all [accessOf, offsetOf]

end

theorem storedMask_cal (k : Fin 12) : storedMask (offsetOf (.cal k)) = 0xFFFF#32 := by
  revert k
  decide

/-- CAL0 and CAL3 are the two entries read as unsigned (R30). -/
theorem offsetOf_cal_unsigned_iff (k : Fin 12) :
    ((offsetOf (.cal k)).toNat = 0x18 ↔ k = 0) ∧ ((offsetOf (.cal k)).toNat = 0x24 ↔ k = 3) := by
  revert k
  decide

theorem toNat_and_storedMask_cal (k : Fin 12) (v : Word) :
    (v &&& storedMask (offsetOf (.cal k))).toNat = (v.extractLsb' 0 16).toNat := by
  have hmask : (v.extractLsb' 0 16).setWidth 32 = v &&& 0xFFFF#32 :=
    setWidth_extractLsb'_eq_and v (n := 16) (by decide)
  rw [storedMask_cal, ← hmask, BitVec.toNat_setWidth_of_le (by decide)]

theorem toInt_readReg_writeCal (k : Fin 12) (v : Word) (s : State) :
    (readReg (.cal k) (writeCal k v s)).toInt =
      if (offsetOf (.cal k)).toNat = 0x18 ∨ (offsetOf (.cal k)).toNat = 0x24 ∨
          (v &&& storedMask (offsetOf (.cal k))).toNat < 32768
      then ((v &&& storedMask (offsetOf (.cal k))).toNat : Int)
      else (v &&& storedMask (offsetOf (.cal k))).toNat - 65536 := by
  obtain ⟨hfirst, hfourth⟩ := offsetOf_cal_unsigned_iff k
  rw [toInt_readReg_cal, getElem_cal_writeCal, if_pos rfl, interpretCoef_eq_toNat]
  simp only [hfirst, hfourth, toNat_and_storedMask_cal, or_assoc]

/-- Settles O18: the offset is an input register's; that register reads back what the write stored, masked for HT_IN0
to ADCP_IN and interpreted for CALk, and every other offset names another register or none. -/
theorem inputWritesReadBack : Obligations.InputWritesReadBack := by
  intro off v s hin
  obtain ⟨r, rfl, hacc⟩ := exists_reg_of_inputOffset hin
  obtain ⟨t, ht⟩ := exists_writeReg_next v s hacc
  refine ⟨t, (exec_wr_offsetOf r v s).trans ht, ?low, ?high, ?other⟩
  case low =>
    rw [readOffset_offsetOf]
    exact readReg_writeReg_same hacc ht
  case high =>
    intro hhigh
    obtain ⟨k, rfl⟩ := exists_cal_of_readWrite hacc hhigh
    cases ht
    rw [readOffset_offsetOf]
    exact toInt_readReg_writeCal k v s
  case other =>
    intro o hne hstatus
    cases hq : regAt o with
    | none => rw [readOffset_of_bad t hq, readOffset_of_bad s hq]
    | some q =>
      obtain rfl := offsetOf_of_regAt hq
      rw [readOffset_offsetOf, readOffset_offsetOf]
      exact readReg_writeReg_of_ne hacc ht (ne_of_apply_ne offsetOf hne) (ne_of_apply_ne offsetOf hstatus)

end Sys2Proof.Machine

/-! SUPPORT. The encoding (30_encoding.md): the command word (R61 to R63, R67), the transaction word (R68), the words of
the opcode table and what runs when one stands at the port, and the words `LDCALB` writes (R70). -/

namespace Sys2Proof.Machine

/-! ## The command word -/

theorem commandReserved_append_commandOp (w : Word) : commandReserved w ++ commandOp w = w :=
  (BitVec.extractLsb'_append_extractLsb'_eq_extractLsb' rfl).trans BitVec.extractLsb'_eq_self

/-- The opcodes that R63 gives to no command are 0x7 to 0xE. -/
theorem reservedOpcode_bounds : ∀ op : BitVec 4,
    op ≠ 0x0#4 → op ≠ 0x1#4 → op ≠ 0x2#4 → op ≠ 0x3#4 → op ≠ 0x4#4 → op ≠ 0x5#4 → op ≠ 0x6#4 → op ≠ 0xF#4 →
    7 ≤ (0#28 ++ op).toNat ∧ (0#28 ++ op).toNat ≤ 14 := by
  decide

/-- What the decoder does with a command word (R62, R67): RSV is tested first, then OP is looked up. -/
theorem decodeCommand_cases (w : Word) :
    (commandReserved w ≠ 0#28 ∧ decodeCommand w = .error .reservedBits) ∨
    ((7 ≤ w.toNat ∧ w.toNat ≤ 14) ∧ decodeCommand w = .error .reservedOpcode) ∨
    (∃ c, encodeCommand c = w ∧ decodeCommand w = .ok c) := by
  by_cases hrsv : commandReserved w = 0#28
  · have hword {op : BitVec 4} (hop : commandOp w = op) : 0#28 ++ op = w := by
      rw [← hop, ← hrsv, commandReserved_append_commandOp]
    rw [decodeCommand, if_pos hrsv]
    split
    case h_9 =>
      rw [← hword rfl]
      exact .inr (.inl ⟨reservedOpcode_bounds _ ‹_› ‹_› ‹_› ‹_› ‹_› ‹_› ‹_› ‹_›, rfl⟩)
    all_goals exact .inr (.inr ⟨_, hword ‹_›, rfl⟩)
  · exact .inl ⟨hrsv, if_neg hrsv⟩

theorem encodeCommand_of_decodeCommand {w : Word} {c : Command} (h : decodeCommand w = .ok c) :
    encodeCommand c = w := by
  obtain ⟨-, herr⟩ | ⟨-, herr⟩ | ⟨d, hw, hok⟩ := decodeCommand_cases w
  · cases herr.symm.trans h
  · cases herr.symm.trans h
  · cases hok.symm.trans h
    exact hw

theorem commandWord_not_illegal (c : Command) :
    ¬ (commandReserved (encodeCommand c) ≠ 0#28 ∨
      (7 ≤ (encodeCommand c).toNat ∧ (encodeCommand c).toNat ≤ 14)) := by
  cases c <;> decide

theorem exists_decodeCommand_error_iff (w : Word) :
    (∃ e, decodeCommand w = .error e) ↔ (commandReserved w ≠ 0#28 ∨ (7 ≤ w.toNat ∧ w.toNat ≤ 14)) := by
  obtain ⟨hrsv, herr⟩ | ⟨hop, herr⟩ | ⟨c, rfl, hok⟩ := decodeCommand_cases w
  · exact iff_of_true ⟨_, herr⟩ (.inl hrsv)
  · exact iff_of_true ⟨_, herr⟩ (.inr hop)
  · exact iff_of_false (fun ⟨_, herr⟩ => nomatch hok.symm.trans herr) (commandWord_not_illegal c)

theorem exec_wr_cmd_of_refused {w : Word} {e : DecodeError} (s : State) (h : decodeCommand w = .error e) :
    exec (.wr 0x00#8 w) s = .next (illegalCommand s) := by
  rw [exec_wr_cmd, writeCommand, h]

/-- Settles O4: the decoder refuses just these words, and the write of a refused word is ILLEGAL_CMD, gated by ERR. -/
theorem illegalWordsOnlyRaise : Obligations.IllegalWordsOnlyRaise := by
  intro w
  refine ⟨exists_decodeCommand_error_iff w, fun hillegal s => ?_⟩
  obtain ⟨e, herr⟩ := (exists_decodeCommand_error_iff w).mpr hillegal
  rw [exec_wr_cmd_of_refused s herr]
  exact ⟨fun h => congrArg _ (illegalCommand_of_no_err h), fun h => congrArg _ (gated_of_err h)⟩

/-! ## The transaction word -/

theorem ofBool_getLsbD {n : Nat} (x : BitVec n) (i : Nat) : BitVec.ofBool (x.getLsbD i) = x.extractLsb' i 1 := by
  ext j hj
  obtain rfl : j = 0 := by omega
  simp

section
variable (we : Bool) (off : Offset) (data : Word)

theorem getLsbD_transferWord : (transferWord we off data).getLsbD 40 = we :=
  calc
    (transferWord we off data).getLsbD 40 = (BitVec.ofBool we ++ off).getLsbD 8 := BitVec.getLsbD_append
    _ = (BitVec.ofBool we).getLsbD 0 := BitVec.getLsbD_append
    _ = we := by simp

theorem extractLsb'_offset_transferWord : (transferWord we off data).extractLsb' 32 8 = off :=
  (BitVec.extractLsb'_append_eq_of_le le_rfl).trans BitVec.extractLsb'_append_eq_right

theorem extractLsb'_data_transferWord : (transferWord we off data).extractLsb' 0 32 = data :=
  BitVec.extractLsb'_append_eq_right

theorem requestOfTransferWord_transferWord :
    requestOfTransferWord (transferWord we off data) = .transfer we off data := by
  rw [requestOfTransferWord, getLsbD_transferWord, extractLsb'_offset_transferWord, extractLsb'_data_transferWord]

theorem decodeTransferWord_transferWord :
    decodeTransferWord (transferWord we off data) =
      if we = false ∧ data ≠ 0#32 then .error .readDataNotZero else decode (.transfer we off data) := by
  rw [decodeTransferWord, requestOfTransferWord_transferWord, getLsbD_transferWord, extractLsb'_data_transferWord]

end

theorem transferWord_fields (tw : TransferWord) :
    transferWord (tw.getLsbD 40) (tw.extractLsb' 32 8) (tw.extractLsb' 0 32) = tw := by
  have hhigh : tw.extractLsb' 40 1 ++ tw.extractLsb' 32 8 = tw.extractLsb' 32 9 :=
    BitVec.extractLsb'_append_extractLsb'_eq_extractLsb' rfl
  rw [transferWord, ofBool_getLsbD, hhigh]
  exact (BitVec.extractLsb'_append_extractLsb'_eq_extractLsb' rfl).trans BitVec.extractLsb'_eq_self

/-- The words of R68's notation: those of a write, and those of a read whose DATA is 0. -/
theorem decodeTransferWord_eq_ok_iff (tw : TransferWord) (i : Instr) :
    decodeTransferWord tw = .ok i ↔
      (∃ off data, i = .wr off data ∧ tw = transferWord true off data) ∨
      (∃ off, i = .rd off ∧ tw = transferWord false off 0#32) := by
  constructor
  · intro h
    obtain ⟨we, off, data, rfl⟩ : ∃ we off data, tw = transferWord we off data :=
      ⟨_, _, _, (transferWord_fields tw).symm⟩
    rw [decodeTransferWord_transferWord] at h
    cases we with
    | true =>
      cases h
      exact .inl ⟨off, data, rfl, rfl⟩
    | false =>
      by_cases hdata : data = 0#32
      · subst hdata
        cases h
        exact .inr ⟨off, rfl, rfl⟩
      · rw [if_pos ⟨rfl, hdata⟩] at h
        cases h
  · rintro (⟨off, data, rfl, rfl⟩ | ⟨off, rfl, rfl⟩) <;> rw [decodeTransferWord_transferWord] <;> rfl

/-- Settles O3: a command word is one of the eight of R63, and a transaction word is its three fields put together. -/
theorem encodeInvertsDecode : Obligations.EncodeInvertsDecode := by
  refine ⟨fun w c => encodeCommand_of_decodeCommand, fun tw i hdec => ?_⟩
  obtain ⟨off, data, rfl, rfl⟩ | ⟨off, rfl, rfl⟩ := (decodeTransferWord_eq_ok_iff tw i).mp hdec
  · exact ⟨rfl, rfl⟩
  · exact ⟨rfl, rfl⟩

/-! ## The words of the opcode table -/

theorem decodeTableWord_eq_some_iff {nbits w : Nat} {i : Instr} :
    decodeTableWord nbits w = some i ↔ decodeTableNumber nbits w = .ok i := by
  unfold decodeTableWord
  cases decodeTableNumber nbits w <;> simp

theorem decodeTableNumber_commandWord (w : Word) : decodeTableNumber 32 w.toNat = decode (.command w) := by
  simp [decodeTableNumber, w.isLt]

theorem decodeTableNumber_transferWord (tw : TransferWord) :
    decodeTableNumber 48 tw.toNat = decodeTransferWord tw := by
  simp [decodeTableNumber, tw.isLt]

theorem instr_cases_format (i : Instr) :
    (∃ c, i = .ofCommand c) ∨ (∃ off data, i = .wr off data) ∨ (∃ off, i = .rd off) := by
  cases i with
  | wr off data => exact .inr (.inl ⟨off, data, rfl⟩)
  | rd off => exact .inr (.inr ⟨off, rfl⟩)
  | nop => exact .inl ⟨.nop, rfl⟩
  | decht => exact .inl ⟨.decht, rfl⟩
  | compt => exact .inl ⟨.compt, rfl⟩
  | compp => exact .inl ⟨.compp, rfl⟩
  | comptp => exact .inl ⟨.comptp, rfl⟩
  | clrcal => exact .inl ⟨.clrcal, rfl⟩
  | clrerr => exact .inl ⟨.clrerr, rfl⟩
  | srst => exact .inl ⟨.srst, rfl⟩

theorem encode_ofCommand (c : Command) : encode (.ofCommand c) = .command (encodeCommand c) := by
  cases c <;> rfl

theorem decode_commandWord (c : Command) : decode (.command (encodeCommand c)) = .ok (.ofCommand c) := by
  rw [decode, decodeCommand_encodeCommand]
  rfl

theorem decode_encode (i : Instr) : decode (encode i) = .ok i := by
  obtain ⟨c, rfl⟩ | ⟨off, data, rfl⟩ | ⟨off, rfl⟩ := instr_cases_format i
  · rw [encode_ofCommand, decode_commandWord]
  · rfl
  · rfl

theorem decodeTableWord_encodedWord (i : Instr) : decodeTableWord (encodedBits i) (encodedWord i) = some i := by
  rw [decodeTableWord_eq_some_iff]
  obtain ⟨c, rfl⟩ | ⟨off, data, rfl⟩ | ⟨off, rfl⟩ := instr_cases_format i
  · rw [encodedBits, encodedWord, encode_ofCommand]
    exact (decodeTableNumber_commandWord _).trans (decode_commandWord c)
  · exact (decodeTableNumber_transferWord _).trans ((decodeTransferWord_eq_ok_iff _ _).mpr (.inl ⟨off, data, rfl, rfl⟩))
  · exact (decodeTableNumber_transferWord _).trans ((decodeTransferWord_eq_ok_iff _ _).mpr (.inr ⟨off, rfl, rfl⟩))

/-- Settles O2: in both forms, a command by its row of R63 and a transaction by its fields (R68). -/
theorem decodeInvertsEncode : Obligations.DecodeInvertsEncode := fun i _ =>
  ⟨decode_encode i, decodeTableWord_encodedWord i⟩

/-- Settles O1: each word is its instruction's encoding. -/
theorem decodesTheSpecsWords : Obligations.DecodesTheSpecsWords :=
  ⟨decodeTableWord_encodedWord .nop, decodeTableWord_encodedWord .decht, decodeTableWord_encodedWord .compt,
    decodeTableWord_encodedWord .compp, decodeTableWord_encodedWord .comptp, decodeTableWord_encodedWord .clrcal,
    decodeTableWord_encodedWord .clrerr, decodeTableWord_encodedWord .srst,
    decodeTableWord_encodedWord (.wr 0x10#8 0x007EED00#32), decodeTableWord_encodedWord (.rd 0x60#8)⟩

/-! ## A table word at the port -/

theorem decode_of_decodeTransferWord {tw : TransferWord} {i : Instr} (h : decodeTransferWord tw = .ok i) :
    decode (requestOfTransferWord tw) = .ok i := by
  rw [decodeTransferWord] at h
  split at h
  · cases h
  · exact h

theorem decode_requestOfTableWord {nbits w : Nat} {i : Instr} (h : decodeTableWord nbits w = some i) :
    decode (requestOfTableWord nbits w) = .ok i := by
  rw [decodeTableWord_eq_some_iff, decodeTableNumber] at h
  by_cases hbits : nbits ≤ 32
  · rw [if_pos hbits] at h
    rw [requestOfTableWord, if_pos hbits]
    split at h
    · exact h
    · cases h
  · rw [if_neg hbits] at h
    rw [requestOfTableWord, if_neg hbits]
    split at h
    · exact decode_of_decodeTransferWord h
    · cases h

/-- Settles O7: the request placed at the port decodes as its table word does, and taking it off restores the port. -/
theorem fetchedWordRuns : Obligations.FetchedWordRuns := fun _ _ _ _ hdec =>
  (step_of_host rfl).trans (perform_of_decode _ (decode_requestOfTableWord hdec))

/-! ## `LDCALB` -/

theorem getElem?_expandLdcal (w : Vector Half 12) (k : Fin 12) :
    (expandLdcal w)[k.val]? = some (.wr (offsetOf (.cal k)) (w[k].setWidth 32)) := by
  simp [expandLdcal]

theorem toNat_calWord (low high : Byte) : (calWord low high).toNat = low.toNat + high.toNat * 2 ^ 8 := by
  rw [calWord, BitVec.toNat_append, ← Nat.shiftLeft_add_eq_or_of_lt low.isLt, Nat.shiftLeft_eq, Nat.add_comm]

theorem toNat_setWidth_calWords (bytes : Vector Byte 24) (k : Fin 12) :
    ((calWords bytes)[k].setWidth 32).toNat =
      (bytes.toList[2 * k.val]?.getD 0#8).toNat + (bytes.toList[2 * k.val + 1]?.getD 0#8).toNat * 2 ^ 8 := by
  have hlow : 2 * k.val < 24 := by omega
  have hhigh : 2 * k.val + 1 < 24 := by omega
  rw [BitVec.toNat_setWidth_of_le (by decide)]
  simp [calWords, toNat_calWord, hlow, hhigh]

/-- Settles O48: word k goes to CALk, and its bytes are 2k, the less significant, and 2k + 1 (R97). -/
theorem ldcalbIsLittleEndian : Obligations.LdcalbIsLittleEndian := by
  refine fun bytes => ⟨by simp [expand, expandLdcal], fun k => ⟨_, ?_, toNat_setWidth_calWords bytes k⟩⟩
  rw [calOffset_eq]
  exact getElem?_expandLdcal (calWords bytes) k

end Sys2Proof.Machine

/-! SUPPORT. The humidity decoder (40_decoder.md): where the two fields stand in the bytes b0 to b6 (R81 to R83), the
three outcomes of DECHT (R84), and the humidity driver's reading (R87 to R90). -/

namespace Sys2Proof.Machine

/-! ## The two fields in the input registers -/

theorem toNat_append_eq_add {m n : Nat} (x : BitVec m) (y : BitVec n) :
    (x ++ y).toNat = x.toNat * 2 ^ n + y.toNat := by
  rw [BitVec.toNat_append, ← Nat.shiftLeft_add_eq_or_of_lt y.isLt, Nat.shiftLeft_eq]

/-- Of the humidity field, HT_IN0 has all but its top byte b0 and the low half of b3. -/
theorem toNat_humidityField_append (x : BitVec 32) (y : BitVec 24) :
    (humidityField (x ++ y)).toNat = x.toNat % 2 ^ 24 / 2 ^ 4 := by
  rw [humidityField, BitVec.extractLsb'_toNat, toNat_append_eq_add, Nat.shiftRight_eq_div_pow]
  have hy := y.isLt
  omega

/-- Of the temperature field, HT_IN0 has the low half of b3 and HT_IN1 all but its low byte b6. -/
theorem toNat_temperatureField_append (x : BitVec 32) (y : BitVec 24) :
    (temperatureField (x ++ y)).toNat = x.toNat % 2 ^ 4 * 2 ^ 16 + y.toNat / 2 ^ 8 := by
  rw [temperatureField, BitVec.extractLsb'_toNat, toNat_append_eq_add, Nat.shiftRight_eq_div_pow]
  have hy := y.isLt
  omega

section
variable {s : State} {b0 b1 b2 b3 b4 b5 b6 : Byte}

theorem toNat_humidityField_of_bytes (h0 : s.htIn0 = b0 ++ b1 ++ b2 ++ b3) :
    (humidityField (htSequence s)).toNat = b1.toNat * 2 ^ 12 + b2.toNat * 2 ^ 4 + b3.toNat / 2 ^ 4 := by
  rw [htSequence, toNat_humidityField_append, h0]
  simp only [toNat_append_eq_add]
  have h1 := b1.isLt
  have h2 := b2.isLt
  have h3 := b3.isLt
  omega

theorem toNat_temperatureField_of_bytes (h0 : s.htIn0 = b0 ++ b1 ++ b2 ++ b3) (h1 : s.htIn1 = b4 ++ b5 ++ b6) :
    (temperatureField (htSequence s)).toNat = b3.toNat % 2 ^ 4 * 2 ^ 16 + b4.toNat * 2 ^ 8 + b5.toNat := by
  rw [htSequence, toNat_temperatureField_append, h0, h1]
  simp only [toNat_append_eq_add]
  have h6 := b6.isLt
  omega

end

/-- The humidity field has no bit of b0 and none of b6 (R85, R86). -/
theorem humidityField_congr_outer_bytes (x : BitVec 32) (y : BitVec 24) (b0 b6 : Byte) :
    humidityField ((b0 ++ x.extractLsb' 0 24 : BitVec 32) ++ (y.extractLsb' 8 16 ++ b6 : BitVec 24)) =
      humidityField (x ++ y) := by
  apply BitVec.eq_of_toNat_eq
  rw [toNat_humidityField_append, toNat_humidityField_append, toNat_append_eq_add, BitVec.extractLsb'_toNat]
  omega

/-- Nor has the temperature field. -/
theorem temperatureField_congr_outer_bytes (x : BitVec 32) (y : BitVec 24) (b0 b6 : Byte) :
    temperatureField ((b0 ++ x.extractLsb' 0 24 : BitVec 32) ++ (y.extractLsb' 8 16 ++ b6 : BitVec 24)) =
      temperatureField (x ++ y) := by
  apply BitVec.eq_of_toNat_eq
  rw [toNat_temperatureField_append, toNat_temperatureField_append, toNat_append_eq_add, toNat_append_eq_add,
    BitVec.extractLsb'_toNat, BitVec.extractLsb'_toNat, Nat.shiftRight_eq_div_pow, Nat.shiftRight_eq_div_pow]
  have hy := y.isLt
  have h6 := b6.isLt
  omega

/-! ## The three outcomes of DECHT -/

section
variable {s : State}

theorem exec_decht_of_err (h : s.err = true) : exec .decht s = .next s :=
  congrArg Host.Outcome.next (gated_of_err h)

theorem exec_decht_of_missing (herr : s.err = false) (h : s.hin0V = false ∨ s.hin1V = false) :
    exec .decht s = .next { s with err := true, errcode := 0x2#4, houtV := false } := by
  have hbody : dechtBody s = .error .inputMissing := if_pos h
  rw [exec, execDecht, gated_of_no_err herr, committing_error hbody]
  simp [raiseError, dechtGroups, codeBits, herr]

theorem exec_decht_of_present (herr : s.err = false) (h0 : s.hin0V = true) (h1 : s.hin1V = true) :
    exec .decht s =
      .next (commitHumidity (humidityField (htSequence s)) (temperatureField (htSequence s)) s) := by
  have hbody : dechtBody s = .ok _ := if_neg (by simp [h0, h1])
  rw [exec, execDecht, gated_of_no_err herr, committing_ok hbody]

theorem exec_decht_cases (s : State) :
    (s.err = true ∧ exec .decht s = .next s) ∨
    (s.err = false ∧ (s.hin0V = false ∨ s.hin1V = false) ∧
      exec .decht s = .next { s with err := true, errcode := 0x2#4, houtV := false }) ∨
    (s.err = false ∧ s.hin0V = true ∧ s.hin1V = true ∧
      exec .decht s =
        .next (commitHumidity (humidityField (htSequence s)) (temperatureField (htSequence s)) s)) := by
  cases herr : s.err with
  | true => exact .inl ⟨rfl, exec_decht_of_err herr⟩
  | false =>
    obtain ⟨hin, -⟩ | ⟨h0, h1, -⟩ := dechtBody_cases s
    · exact .inr (.inl ⟨rfl, hin, exec_decht_of_missing herr hin⟩)
    · exact .inr (.inr ⟨rfl, h0, h1, exec_decht_of_present herr h0 h1⟩)

end

/-- Settles O19: the two fields as numbers of 20 bits, and the one error DECHT can raise. -/
theorem dechtDecodesTheBytes : Obligations.DechtDecodesTheBytes := by
  refine fun s b0 b1 b2 b3 b4 b5 b6 herr h0 h1 => ⟨fun hin0 hin1 => ?_, exec_decht_of_missing herr⟩
  rw [exec_decht_of_present herr hin0 hin1, ← toNat_humidityField_of_bytes h0,
    ← toNat_temperatureField_of_bytes h0 h1, BitVec.ofNat_toNat, BitVec.ofNat_toNat, BitVec.setWidth_eq,
    BitVec.setWidth_eq, commitHumidity]

/-- DECHT finds in HT_IN0 and HT_IN1 no more than the two fields. -/
theorem exec_decht_congr {s t : State} {x : BitVec 32} {y : BitVec 24}
    (hhum : humidityField (x ++ y) = humidityField (htSequence s))
    (htemp : temperatureField (x ++ y) = temperatureField (htSequence s)) (h : exec .decht s = .next t) :
    exec .decht { s with htIn0 := x, htIn1 := y } = .next { t with htIn0 := x, htIn1 := y } := by
  obtain ⟨herr, heq⟩ | ⟨herr, hin, heq⟩ | ⟨herr, h0, h1, heq⟩ := exec_decht_cases s <;>
    cases heq.symm.trans h
  · exact exec_decht_of_err herr
  · exact exec_decht_of_missing herr hin
  · rw [← hhum, ← htemp]
    exact exec_decht_of_present herr h0 h1

/-- Settles O20: b0 and b6 stand outside both fields. -/
theorem dechtIgnoresStatusAndCrc : Obligations.DechtIgnoresStatusAndCrc := fun s _ b0 b6 =>
  exec_decht_congr (humidityField_congr_outer_bytes s.htIn0 s.htIn1 b0 b6)
    (temperatureField_congr_outer_bytes s.htIn0 s.htIn1 b0 b6)

/-! ## The humidity driver's reading -/

theorem humidityReading_of_absent {s : State} (h : s.houtV = false) : humidityReading s = none := by
  simp [humidityReading, h]

@[simp] theorem humidityReading_commitHumidity (h t : Count) (s : State) :
    humidityReading (commitHumidity h t s) = some (humidityCelsius t, relativeHumidity h) := rfl

/-- Settles O21: both fields are those of the all-zero sequence, which b0 and b6 do not change. -/
theorem zeroBytesReadMinusFifty : Obligations.ZeroBytesReadMinusFifty := by
  intro s b0 b6 herr hin0 hin1 h0 h1
  have hhum : humidityField (htSequence s) = 0#20 := by
    rw [htSequence, h0, h1]
    exact humidityField_congr_outer_bytes 0#32 0#24 b0 b6
  have htemp : temperatureField (htSequence s) = 0#20 := by
    rw [htSequence, h0, h1]
    exact temperatureField_congr_outer_bytes 0#32 0#24 b0 b6
  refine ⟨_, exec_decht_of_present herr hin0 hin1, hhum, htemp, ?_⟩
  rw [humidityReading_commitHumidity, hhum, htemp]
  norm_num [humidityCelsius, relativeHumidity]

/-- Settles O22: a DECHT that succeeds commits the two fields, and one that fails makes the outputs absent. -/
theorem humidityReadingOfEveryMeasurement : Obligations.HumidityReadingOfEveryMeasurement := by
  intro s t b0 b1 b2 b3 b4 b5 b6 herr h0 h1 hexec
  obtain ⟨hgated, -⟩ | ⟨-, -, heq⟩ | ⟨-, -, -, heq⟩ := exec_decht_cases s
  · cases hgated.symm.trans herr
  · cases heq.symm.trans hexec
    exact ⟨nofun, fun _ => humidityReading_of_absent rfl⟩
  · cases heq.symm.trans hexec
    refine ⟨fun _ => ?_, fun hfail => nomatch herr.symm.trans hfail⟩
    rw [humidityReading_commitHumidity, humidityCelsius, relativeHumidity, toNat_humidityField_of_bytes h0,
      toNat_temperatureField_of_bytes h0 h1]

/-! ## The ranges of the two physical values -/

theorem toNat_count_le (c : Count) : (c.toNat : ℚ) ≤ 2 ^ 20 - 1 := by
  have h : c.toNat + 1 ≤ 2 ^ 20 := c.isLt
  have hq : (c.toNat : ℚ) + 1 ≤ 2 ^ 20 := by exact_mod_cast h
  linarith

/-- Settles O23: both values are linear in a field that lies in 0 to 2^20 - 1. -/
theorem humidityReadingRanges : Obligations.HumidityReadingRanges := by
  refine ⟨fun h => ⟨?_, ?_⟩, fun t => ⟨?_, ?_⟩, fun h h' => ?_, fun t t' => ?_⟩
  · rw [relativeHumidity]
    positivity
  · have hmax := toNat_count_le h
    rw [relativeHumidity]
    linarith
  · have hmin : (0 : ℚ) ≤ t.toNat := t.toNat.cast_nonneg
    rw [humidityCelsius]
    linarith
  · have hmax := toNat_count_le t
    rw [humidityCelsius]
    linarith
  · rw [relativeHumidity, relativeHumidity]
    ring
  · rw [humidityCelsius, humidityCelsius]
    ring

end Sys2Proof.Machine

/-! SUPPORT. The compensation pipeline (41_compensation.md): the operands of the two stages as numbers (R99 to R102),
what the compute commands leave (R105, R110, R115, R117), the table's one writer (R96), and the ranges and the widths
of both stages (R109, R118). -/

namespace Sys2Proof.Machine

/-! ## The operands as numbers -/

theorem toNat_rawCount (bytes : BitVec 24) : (rawCount bytes).toNat = bytes.toNat / 16 := by
  have hb := bytes.isLt
  rw [rawCount, BitVec.extractLsb'_toNat, Nat.shiftRight_eq_div_pow]
  omega

theorem toNat_adcT (s : State) : (adcT s).toNat = s.adctIn.toNat / 16 := toNat_rawCount s.adctIn

theorem toNat_adcP (s : State) : (adcP s).toNat = s.adcpIn.toNat / 16 := toNat_rawCount s.adcpIn

/-- T1 and P1 are read unsigned (R100). -/
theorem coef_unsigned {k : Fin 12} (hk : coefUnsigned k = true) (s : State) : coef k s = s.cal[k].toNat :=
  (interpretCoef_eq_toInt k _).trans (if_pos ((coefUnsigned_iff k).mp hk))

theorem coef_signed {k : Fin 12} (hk : coefUnsigned k = false) (s : State) : coef k s = s.cal[k].toInt := by
  simp [coef, interpretCoef, hk, s16_eq_toInt]

theorem coef_unsigned_bounds {k : Fin 12} (hk : coefUnsigned k = true) (s : State) : 0 ≤ coef k s ∧ coef k s ≤ 65535 :=
  interpretCoef_unsigned _ hk

theorem coef_signed_bounds {k : Fin 12} (hk : coefUnsigned k = false) (s : State) :
    -32768 ≤ coef k s ∧ coef k s ≤ 32767 :=
  interpretCoef_signed _ hk

theorem pressureCoefs_eq (s : State) : pressureCoefs s =
    ⟨s.cal[3].toNat, s.cal[4].toInt, s.cal[5].toInt, s.cal[6].toInt, s.cal[7].toInt, s.cal[8].toInt, s.cal[9].toInt,
      s.cal[10].toInt, s.cal[11].toInt⟩ := by
  rw [pressureCoefs, coef_unsigned (k := 3) rfl, coef_signed (k := 4) rfl, coef_signed (k := 5) rfl,
    coef_signed (k := 6) rfl, coef_signed (k := 7) rfl, coef_signed (k := 8) rfl, coef_signed (k := 9) rfl,
    coef_signed (k := 10) rfl, coef_signed (k := 11) rfl]
  rfl

theorem stage1Loaded_iff {s : State} : stage1Loaded s = true ↔ s.calV.extractLsb' 0 3 = 0b111#3 := beq_iff_eq

theorem stage2Loaded_iff {s : State} : stage2Loaded s = true ↔ s.calV.extractLsb' 3 9 = 0x1FF#9 := beq_iff_eq

theorem stage1Loaded_eq_false {s : State} (h : s.calV.extractLsb' 0 3 ≠ 0b111#3) : stage1Loaded s = false :=
  beq_eq_false_iff_ne.mpr h

theorem stage2Loaded_eq_false {s : State} (h : s.calV.extractLsb' 3 9 ≠ 0x1FF#9) : stage2Loaded s = false :=
  beq_eq_false_iff_ne.mpr h

/-! ## When the body of a compute command succeeds -/

section
variable {s t : State}

theorem dechtBody_eq_ok_iff : dechtBody s = .ok t ↔ s.hin0V = true ∧ s.hin1V = true ∧
    t = commitHumidity (humidityField (htSequence s)) (temperatureField (htSequence s)) s := by
  obtain ⟨hin | hin, hb⟩ | ⟨h0, h1, hb⟩ := dechtBody_cases s
  · simp [hb, hin]
  · simp [hb, hin]
  · simp [hb, h0, h1, eq_comm]

theorem comptBody_eq_ok_iff : comptBody s = .ok t ↔
    s.adctV = true ∧ stage1Loaded s = true ∧ t = commitTemperature (stage1Of s) s := by
  obtain ⟨hadc, hb⟩ | ⟨-, htab, hb⟩ | ⟨hadc, htab, hb⟩ := comptBody_cases s
  · simp [hb, hadc]
  · simp [hb, htab]
  · simp [hb, hadc, htab, eq_comm]

theorem comppBody_eq_ok_iff : comppBody s = .ok t ↔
    s.adcpV = true ∧ stage2Loaded s = true ∧ s.toutV = true ∧
      ∃ p, pressureResult (adcP s).toNat (tFineOperand s) (pressureCoefs s) = .ok p ∧
        t = commitStage2 (adcP s) p s := by
  obtain ⟨hadc, hb⟩ | ⟨-, htab, hb⟩ | ⟨-, -, htout, hb⟩ | ⟨hadc, htab, htout, ⟨c, hp, hb⟩ | ⟨p, hp, hb⟩⟩ :=
    comppBody_cases s
  · simp [hb, hadc]
  · simp [hb, htab]
  · simp [hb, htout]
  · simp [hb, hp]
  · simp [hb, hadc, htab, htout, hp, eq_comm]

theorem comptpBody_eq_ok_iff : comptpBody s = .ok t ↔
    s.adctV = true ∧ stage1Loaded s = true ∧ s.adcpV = true ∧ stage2Loaded s = true ∧
      ∃ p, pressureResult (adcP s).toNat (stage1Of s).tFine (pressureCoefs s) = .ok p ∧
        t = commitStage2 (adcP s) p (commitTemperature (stage1Of s) s) := by
  obtain ⟨hadc, hb⟩ | ⟨-, htab, hb⟩ | ⟨-, -, hadc, hb⟩ | ⟨-, -, -, htab, hb⟩ |
    ⟨hadct, htab1, hadcp, htab2, ⟨c, hp, hb⟩ | ⟨p, hp, hb⟩⟩ := comptpBody_cases s
  · simp [hb, hadc]
  · simp [hb, htab]
  · simp [hb, hadc]
  · simp [hb, htab]
  · simp [hb, hp]
  · simp [hb, hadct, htab1, hadcp, htab2, hp, eq_comm]

end

/-! ## What a command that can fail leaves -/

/-- Instruction `i` is the command with body `b` and output groups `g`, gated by the error state. -/
def IsCommitting (i : Instr) (g : OutGroups) (b : State → Except ErrCode State) : Prop :=
  ∀ s, exec i s = .next (gated (committing g b) s)

theorem isCommitting_decht : IsCommitting .decht dechtGroups dechtBody := fun _ => rfl

theorem isCommitting_compt : IsCommitting .compt comptGroups comptBody := fun _ => rfl

theorem isCommitting_compp : IsCommitting .compp comppGroups comppBody := fun _ => rfl

theorem isCommitting_comptp : IsCommitting .comptp comptpGroups comptpBody := fun _ => rfl

namespace IsCommitting
variable {i : Instr} {g : OutGroups} {b : State → Except ErrCode State} {s t : State} {c : ErrCode}

theorem next_of_err (hi : IsCommitting i g b) (herr : s.err = true) : exec i s = .next s := by
  rw [hi, gated_of_err herr]

theorem next_of_ok (hi : IsCommitting i g b) (herr : s.err = false) (h : b s = .ok t) : exec i s = .next t := by
  rw [hi, gated_of_no_err herr, committing_ok h]

theorem next_of_error (hi : IsCommitting i g b) (herr : s.err = false) (h : b s = .error c) :
    exec i s = .next (failed (codeBits c) g s) := by
  rw [hi, gated_of_no_err herr, committing_error h]
  simp [raiseError, failed, herr]

/-- With no error recorded after it, the command found its body a success. -/
theorem ok_of_next (hi : IsCommitting i g b) (herr : s.err = false) (h : exec i s = .next t) (hno : t.err = false) :
    b s = .ok t := by
  cases hb : b s with
  | ok u => cases (hi.next_of_ok herr hb).symm.trans h; rfl
  | error c =>
    cases (hi.next_of_error herr hb).symm.trans h
    cases hno

/-- A command whose outputs are no operand of its own does no more when it is repeated: a failure is gated by the error
it recorded. -/
theorem next_of_next (hi : IsCommitting i g b) (hb : ∀ u v, b u = .ok v → b v = .ok v) (h : exec i s = .next t) :
    exec i t = .next t := by
  cases hterr : t.err with
  | true => exact hi.next_of_err hterr
  | false =>
    cases hs : s.err with
    | true =>
      cases (hi.next_of_err hs).symm.trans h
      exact h
    | false => exact hi.next_of_ok hterr (hb s t (hi.ok_of_next hs h hterr))

end IsCommitting

/-- COMPT's failures make both compensated outputs absent (60_exceptions.md R146). -/
theorem exec_compt_of_error {s : State} {c : ErrCode} (herr : s.err = false) (h : comptBody s = .error c) :
    exec .compt s =
      .next { s with err := true, errcode := codeBits c, toutV := false, poutV := false } := by
  rw [isCommitting_compt.next_of_error herr h]
  simp [failed, comptGroups]

/-- COMPP's failures make the pressure absent. -/
theorem exec_compp_of_error {s : State} {c : ErrCode} (herr : s.err = false) (h : comppBody s = .error c) :
    exec .compp s = .next { s with err := true, errcode := codeBits c, poutV := false } := by
  rw [isCommitting_compp.next_of_error herr h]
  simp [failed, comppGroups]

/-! ## Repeating a compute command, and the two forms of the compensation -/

/-- Settles O34: each success commits outputs that are no operand of its own command, so its body succeeds again with
the same outputs. COMPP reads TFINE and TOUT_V, which stage 2 does not write. -/
theorem computeIsIdempotent : Obligations.ComputeIsIdempotent := by
  intro i hi s t hexec
  simp only [List.mem_cons, List.not_mem_nil, or_false] at hi
  obtain rfl | rfl | rfl | rfl := hi
  · refine isCommitting_decht.next_of_next (fun u v h => ?_) hexec
    obtain ⟨h0, h1, rfl⟩ := dechtBody_eq_ok_iff.mp h
    exact dechtBody_eq_ok_iff.mpr ⟨h0, h1, rfl⟩
  · refine isCommitting_compt.next_of_next (fun u v h => ?_) hexec
    obtain ⟨hadc, htab, rfl⟩ := comptBody_eq_ok_iff.mp h
    exact comptBody_eq_ok_iff.mpr ⟨hadc, htab, rfl⟩
  · refine isCommitting_compp.next_of_next (fun u v h => ?_) hexec
    obtain ⟨hadc, htab, htout, p, hp, rfl⟩ := comppBody_eq_ok_iff.mp h
    exact comppBody_eq_ok_iff.mpr ⟨hadc, htab, htout, p, hp, rfl⟩
  · refine isCommitting_comptp.next_of_next (fun u v h => ?_) hexec
    obtain ⟨hadct, htab1, hadcp, htab2, p, hp, rfl⟩ := comptpBody_eq_ok_iff.mp h
    exact comptpBody_eq_ok_iff.mpr ⟨hadct, htab1, hadcp, htab2, p, hp, rfl⟩

/-- Settles O33: COMPP finds in TFINE the t_fine that COMPTP hands from one stage to the other. -/
theorem comptpIsComptThenCompp : Obligations.ComptpIsComptThenCompp := by
  intro s t u herr hcompt hterr hcompp huerr
  have hone : comptBody s = .ok t := isCommitting_compt.ok_of_next herr hcompt hterr
  have htwo : comppBody t = .ok u := isCommitting_compp.ok_of_next hterr hcompp huerr
  obtain ⟨hadct, htab1, rfl⟩ := comptBody_eq_ok_iff.mp hone
  obtain ⟨hadcp, htab2, -, p, hp, rfl⟩ := comppBody_eq_ok_iff.mp htwo
  have hp' : pressureResult (adcP s).toNat (sext32 (pat32 (stage1Of s).tFine)) (pressureCoefs s) = .ok p := hp
  rw [sext32_pat32_stage1Of] at hp'
  exact isCommitting_comptp.next_of_ok herr (comptpBody_eq_ok_iff.mpr ⟨hadct, htab1, hadcp, htab2, p, hp', rfl⟩)

/-- Settles O44: of the effects that are not SRST's, only a write of CALk touches the raw words. -/
theorem onlyHostWritesTheTable : Obligations.OnlyHostWritesTheTable := by
  intro i s t hexec hcal
  cases Effect.of_exec hexec with
  | srst hc => exact .inl hc
  | cal k v => exact .inr ⟨k, v, by rw [calOffset_eq]⟩
  | _ => exact absurd rfl hcal


/-! ## The range of a product -/

/-- The greatest product of two values that lie in intervals is at a corner. -/
theorem mul_le_of_corners {x y a b c d M : Int} (hx : a ≤ x ∧ x ≤ b) (hy : c ≤ y ∧ y ≤ d)
    (hM : a * c ≤ M ∧ a * d ≤ M ∧ b * c ≤ M ∧ b * d ≤ M) : x * y ≤ M := by
  obtain ⟨hax, hxb⟩ := hx
  obtain ⟨hcy, hyd⟩ := hy
  obtain ⟨hac, had, hbc, hbd⟩ := hM
  obtain hy0 | hy0 := le_total 0 y
  · have hxy : x * y ≤ b * y := mul_le_mul_of_nonneg_right hxb hy0
    obtain hb0 | hb0 := le_total 0 b
    · exact hxy.trans ((mul_le_mul_of_nonneg_left hyd hb0).trans hbd)
    · exact hxy.trans ((mul_le_mul_of_nonpos_left hcy hb0).trans hbc)
  · have hxy : x * y ≤ a * y := mul_le_mul_of_nonpos_right hax hy0
    obtain ha0 | ha0 := le_total 0 a
    · exact hxy.trans ((mul_le_mul_of_nonneg_left hyd ha0).trans had)
    · exact hxy.trans ((mul_le_mul_of_nonpos_left hcy ha0).trans hac)

/-- Both bounds; the lower one is the upper one of `x` and `-y`. -/
theorem mul_bounds_of_corners {x y a b c d m M : Int} (hx : a ≤ x ∧ x ≤ b) (hy : c ≤ y ∧ y ≤ d)
    (hm : m ≤ a * c ∧ m ≤ a * d ∧ m ≤ b * c ∧ m ≤ b * d)
    (hM : a * c ≤ M ∧ a * d ≤ M ∧ b * c ≤ M ∧ b * d ≤ M) : m ≤ x * y ∧ x * y ≤ M := by
  refine ⟨?_, mul_le_of_corners hx hy hM⟩
  have hneg : x * -y ≤ -m :=
    mul_le_of_corners (c := -d) (d := -c) hx (by omega) (by simp only [mul_neg, neg_le_neg_iff]; tauto)
  linarith

/-! ## The range of stage 1 -/

section
variable {adc t1 t2 t3 : Int} (hadc : 0 ≤ adc ∧ adc < 2 ^ 20) (h1 : 0 ≤ t1 ∧ t1 ≤ 65535)
  (h2 : -32768 ≤ t2 ∧ t2 ≤ 32767) (h3 : -32768 ≤ t3 ∧ t3 ≤ 32767)
include hadc h1

theorem stage1_offset_bounds : -65535 ≤ asr adc 4 - t1 ∧ asr adc 4 - t1 ≤ 65535 := by
  rw [asr]
  omega

/-- The square of stage 1's var2 before its shift. -/
theorem stage1_square_bounds :
    0 ≤ (asr adc 4 - t1) * (asr adc 4 - t1) ∧ (asr adc 4 - t1) * (asr adc 4 - t1) ≤ 65535 ^ 2 :=
  have hd := stage1_offset_bounds hadc h1
  ⟨mul_self_nonneg _, mul_le_of_corners hd hd (by norm_num)⟩

include h2 in
/-- The product of stage 1's var1 before its shift. -/
theorem stage1_linear_bounds :
    -131071 * 32768 ≤ (asr adc 3 - shl t1 1) * t2 ∧ (asr adc 3 - shl t1 1) * t2 ≤ 131070 * 32768 := by
  have hx : -131070 ≤ asr adc 3 - shl t1 1 ∧ asr adc 3 - shl t1 1 ≤ 131071 := by
    rw [asr, shl]
    omega
  exact mul_bounds_of_corners hx h2 (by norm_num) (by norm_num)

include h3 in
/-- The product of stage 1's var2 before its last shift. -/
theorem stage1_quadratic_bounds :
    -1048544 * 32768 ≤ asr ((asr adc 4 - t1) * (asr adc 4 - t1)) 12 * t3 ∧
      asr ((asr adc 4 - t1) * (asr adc 4 - t1)) 12 * t3 ≤ 1048544 * 32767 := by
  have hsq : 0 ≤ asr ((asr adc 4 - t1) * (asr adc 4 - t1)) 12 ∧
      asr ((asr adc 4 - t1) * (asr adc 4 - t1)) 12 ≤ 1048544 := by
    have hd := stage1_square_bounds hadc h1
    rw [asr]
    omega
  exact mul_bounds_of_corners hsq h3 (by norm_num) (by norm_num)

include h2 h3

theorem compT_tFine_bounds :
    -4194224 ≤ (compT adc t1 t2 t3).tFine ∧ (compT adc t1 t2 t3).tFine ≤ 4194144 := by
  have hlin := stage1_linear_bounds hadc h1 h2
  have hquad := stage1_quadratic_bounds hadc h1 h3
  simp only [compT, stage1Var1, stage1Var2, asr] at hlin hquad ⊢
  omega

theorem compT_temp_bounds : -81918 ≤ (compT adc t1 t2 t3).temp ∧ (compT adc t1 t2 t3).temp ≤ 81917 := by
  have hf := compT_tFine_bounds hadc h1 h2 h3
  have htemp : (compT adc t1 t2 t3).temp = asr ((compT adc t1 t2 t3).tFine * 5 + 128) 8 := rfl
  rw [htemp, asr]
  omega

end

theorem count_bounds (c : Count) : (0 : Int) ≤ c.toNat ∧ (c.toNat : Int) < 2 ^ 20 := by
  have hc := c.isLt
  omega

theorem toNat_half_bounds (w : Half) : (0 : Int) ≤ w.toNat ∧ (w.toNat : Int) ≤ 65535 := by
  have hw := w.isLt
  omega

/-- Settles O25: each product takes its extremes at corners of its factors' ranges, and t_fine at the sum of theirs. -/
theorem stage1Ranges : Obligations.Stage1Ranges := by
  intro adc t1 t2 t3
  obtain ⟨hflo, hfhi⟩ := compT_tFine_bounds (count_bounds adc) (toNat_half_bounds t1) (s16_bounds t2) (s16_bounds t3)
  obtain ⟨htlo, hthi⟩ := compT_temp_bounds (count_bounds adc) (toNat_half_bounds t1) (s16_bounds t2) (s16_bounds t3)
  exact ⟨hflo, hfhi, htlo, hthi⟩

/-! ## The range of the divisor, and where it is zero -/

/-- The final var1 of stage 2 before its shift (R107). -/
def stage2Scaled (tFine : Int) (c : PressureCoefs) : Int := (2 ^ 47 + stage2Var1 tFine c) * c.p1

theorem stage2Divisor_eq_asr (tFine : Int) (c : PressureCoefs) :
    stage2Divisor tFine c = asr (stage2Scaled tFine c) 33 := by
  rw [stage2Divisor, stage2Scaled, shl, one_mul]

theorem stage2Divisor_eq_zero_iff (tFine : Int) (c : PressureCoefs) :
    stage2Divisor tFine c = 0 ↔ 0 ≤ stage2Scaled tFine c ∧ stage2Scaled tFine c < 2 ^ 33 := by
  rw [stage2Divisor_eq_asr, asr]
  omega

theorem compP_eq_none_iff (adc tFine : Int) (c : PressureCoefs) :
    compP adc tFine c = none ↔ stage2Divisor tFine c = 0 := by
  simp [compP]

/-- Settles O28: the floor of X / 2^33 is zero exactly on [0, 2^33), and X is a multiple of P1. -/
theorem degenerateExactlyBelow : Obligations.DegenerateExactlyBelow := by
  refine ⟨fun adc tFine c => ?_, fun adc tFine c hp1 => ?_⟩
  · rw [compP_eq_none_iff, stage2Divisor_eq_zero_iff, stage2Scaled]
  · rw [compP_eq_none_iff, stage2Divisor_eq_zero_iff, stage2Scaled, hp1, mul_zero]
    decide

section
variable {tFine : Int} (hf : -4194224 ≤ tFine ∧ tFine ≤ 4194144) (s : State)
include hf

theorem stage2_square_bounds :
    0 ≤ (tFine - 128000) * (tFine - 128000) ∧ (tFine - 128000) * (tFine - 128000) ≤ 4322224 ^ 2 := by
  have hv : -4322224 ≤ tFine - 128000 ∧ tFine - 128000 ≤ 4066144 := by omega
  exact ⟨mul_self_nonneg _, mul_le_of_corners hv hv (by norm_num)⟩

/-- A signed coefficient times the square of stage 2's `tFine - 128000`. -/
theorem stage2_quadratic_bounds {p : Int} (hp : -32768 ≤ p ∧ p ≤ 32767) :
    -(4322224 ^ 2 * 32768) ≤ (tFine - 128000) * (tFine - 128000) * p ∧
      (tFine - 128000) * (tFine - 128000) * p ≤ 4322224 ^ 2 * 32767 :=
  have hsq := stage2_square_bounds hf
  mul_bounds_of_corners hsq hp (by norm_num) (by norm_num)

/-- A signed coefficient times stage 2's `tFine - 128000`. -/
theorem stage2_linear_bounds {p : Int} (hp : -32768 ≤ p ∧ p ≤ 32767) :
    -(4322224 * 32767) ≤ (tFine - 128000) * p ∧ (tFine - 128000) * p ≤ 4322224 * 32768 := by
  have hv : -4322224 ≤ tFine - 128000 ∧ tFine - 128000 ≤ 4066144 := by omega
  exact mul_bounds_of_corners hv hp (by norm_num) (by norm_num)

/-- Stage 2's var1 with the 2^47 added to it. -/
theorem stage2_sum_bounds :
    -2830611292192768 ≤ 2 ^ 47 + stage2Var1 tFine (pressureCoefs s) ∧
      2 ^ 47 + stage2Var1 tFine (pressureCoefs s) ≤ 3112030997653607 := by
  have hquad := stage2_quadratic_bounds hf (p := (pressureCoefs s).p3) (coef_signed_bounds (k := 5) rfl s)
  have hlin := stage2_linear_bounds hf (p := (pressureCoefs s).p2) (coef_signed_bounds (k := 4) rfl s)
  simp only [stage2Var1, asr, shl]
  omega

theorem stage2Scaled_bounds :
    -2830611292192768 * 65535 ≤ stage2Scaled tFine (pressureCoefs s) ∧
      stage2Scaled tFine (pressureCoefs s) ≤ 3112030997653607 * 65535 :=
  have hsum := stage2_sum_bounds hf s
  have hp1 : 0 ≤ (pressureCoefs s).p1 ∧ (pressureCoefs s).p1 ≤ 65535 := coef_unsigned_bounds (k := 3) rfl s
  mul_bounds_of_corners hsum hp1 (by norm_num) (by norm_num)

theorem stage2Divisor_bounds :
    -21595520787 ≤ stage2Divisor tFine (pressureCoefs s) ∧
      stage2Divisor tFine (pressureCoefs s) ≤ 23742549986 := by
  have hx := stage2Scaled_bounds hf s
  rw [stage2Divisor_eq_asr, asr]
  omega

end

/-- Settles O30: the extremes are those of the P3 and P2 terms together, times the largest P1. -/
theorem divisorRange : Obligations.DivisorRange := fun _ _ hlo hhi => stage2Divisor_bounds ⟨hlo, hhi⟩ _

/-! ## The results as the registers hold them -/

/-- TOUT holds stage 1's temperature whole (R118). -/
theorem toInt_pat32_temp (s : State) : (pat32 (stage1Of s).temp).toInt = (stage1Of s).temp := by
  have hb : -81918 ≤ (stage1Of s).temp ∧ (stage1Of s).temp ≤ 81917 :=
    compT_temp_bounds (count_bounds _) (coef_unsigned_bounds rfl s) (coef_signed_bounds rfl s)
      (coef_signed_bounds rfl s)
  exact toInt_pat32 (by omega) (by omega)

theorem pressureResult_of_none {adc f : Int} {c : PressureCoefs} (h : compP adc f c = none) :
    pressureResult adc f c = .error .degenerateCal := by
  simp [pressureResult, h]

theorem pressureResult_of_outside {adc f r : Int} {c : PressureCoefs} (h : compP adc f c = some r)
    (hr : r < 0 ∨ 2 ^ 32 - 1 < r) : pressureResult adc f c = .error .pRange := by
  rw [pressureResult, h]
  exact if_pos hr

theorem pressureResult_of_inside {adc f r : Int} {c : PressureCoefs} (h : compP adc f c = some r)
    (h0 : 0 ≤ r) (hmax : r ≤ 2 ^ 32 - 1) : pressureResult adc f c = .ok (pat32 r) := by
  rw [pressureResult, h]
  exact if_neg (by omega)

/-! ## The errors of the three commands, in the order of their checks -/

section
variable {s : State} {c : ErrCode}

theorem comptBody_of_input_missing (h : s.adctV = false) : comptBody s = .error .inputMissing := by
  simp [comptBody, h]

theorem comptBody_of_cal_missing (hadc : s.adctV = true) (h : stage1Loaded s = false) :
    comptBody s = .error .calMissing := by
  simp [comptBody, hadc, h]

theorem comppBody_of_input_missing (h : s.adcpV = false) : comppBody s = .error .inputMissing := by
  simp [comppBody, h]

theorem comppBody_of_cal_missing (hadc : s.adcpV = true) (h : stage2Loaded s = false) :
    comppBody s = .error .calMissing := by
  simp [comppBody, hadc, h]

theorem comppBody_of_tfine_missing (hadc : s.adcpV = true) (htab : stage2Loaded s = true) (h : s.toutV = false) :
    comppBody s = .error .tfineMissing := by
  simp [comppBody, hadc, htab, h]

theorem comppBody_of_pressure_error (hadc : s.adcpV = true) (htab : stage2Loaded s = true) (htout : s.toutV = true)
    (h : pressureResult (adcP s).toNat (tFineOperand s) (pressureCoefs s) = .error c) : comppBody s = .error c := by
  simp [comppBody, hadc, htab, htout, h]

theorem comptpBody_of_temperature_error (h : comptBody s = .error c) : comptpBody s = .error c := by
  obtain ⟨hadc, hb⟩ | ⟨hadc, htab, hb⟩ | ⟨-, -, hb⟩ := comptBody_cases s <;> cases hb.symm.trans h
  · simp [comptpBody, hadc]
  · simp [comptpBody, hadc, htab]

theorem comptpBody_of_pressure_input_missing (hadct : s.adctV = true) (htab : stage1Loaded s = true)
    (h : s.adcpV = false) : comptpBody s = .error .inputMissing := by
  simp [comptpBody, hadct, htab, h]

theorem comptpBody_of_pressure_cal_missing (hadct : s.adctV = true) (htab : stage1Loaded s = true)
    (hadcp : s.adcpV = true) (h : stage2Loaded s = false) : comptpBody s = .error .calMissing := by
  simp [comptpBody, hadct, htab, hadcp, h]

theorem comptpBody_of_pressure_error (hadct : s.adctV = true) (htab1 : stage1Loaded s = true)
    (hadcp : s.adcpV = true) (htab2 : stage2Loaded s = true)
    (h : pressureResult (adcP s).toNat (stage1Of s).tFine (pressureCoefs s) = .error c) :
    comptpBody s = .error c := by
  simp [comptpBody, hadct, htab1, hadcp, htab2, h]

end

/-! ## COMPT -/

/-- Stage 1 of the registers, written out (R102, R104). -/
theorem stage1Of_tFine (s : State) : (stage1Of s).tFine =
    (((s.adctIn.toNat / 16 : Nat) : Int) / 2 ^ 3 - s.cal[0].toNat * 2) * s.cal[1].toInt / 2 ^ 11 +
      (((s.adctIn.toNat / 16 : Nat) : Int) / 2 ^ 4 - s.cal[0].toNat) *
        (((s.adctIn.toNat / 16 : Nat) : Int) / 2 ^ 4 - s.cal[0].toNat) / 2 ^ 12 * s.cal[2].toInt / 2 ^ 14 := by
  rw [stage1Of, toNat_adcT, coef_unsigned (k := 0) rfl, coef_signed (k := 1) rfl, coef_signed (k := 2) rfl]
  rfl

theorem stage1Of_temp (s : State) : (stage1Of s).temp = ((stage1Of s).tFine * 5 + 128) / 2 ^ 8 := rfl

/-- Settles O24: the two checks in order, and a commit whose values are stage 1's, which the registers hold whole. -/
theorem comptComputesStage1 : Obligations.ComptComputesStage1 := by
  refine fun s herr => ⟨fun hadc => ?input, fun hadc htab => ?cal, fun hadc htab => ?ok⟩
  case input => exact exec_compt_of_error herr (comptBody_of_input_missing hadc)
  case cal => exact exec_compt_of_error herr (comptBody_of_cal_missing hadc (stage1Loaded_eq_false htab))
  case ok =>
    intro adc T1 T2 T3 d tFine
    have htFine : (stage1Of s).tFine = tFine := stage1Of_tFine s
    have hbody := comptBody_eq_ok_iff.mpr ⟨hadc, stage1Loaded_iff.mpr htab, rfl⟩
    refine ⟨_, isCommitting_compt.next_of_ok herr hbody, rfl, ?_, ?_, ?_⟩
    · exact congrArg _ (toNat_adcT s)
    · exact (sext32_pat32_stage1Of s).trans htFine
    · exact (toInt_pat32_temp s).trans (by rw [stage1Of_temp, htFine])

/-! ## COMPP -/

/-- The divisor of the registers, written out (R107). -/
theorem stage2Divisor_pressureCoefs (f : Int) (s : State) : stage2Divisor f (pressureCoefs s) =
    (2 ^ 47 + ((f - 128000) * (f - 128000) * s.cal[5].toInt / 2 ^ 8 + (f - 128000) * s.cal[4].toInt * 2 ^ 12)) *
      s.cal[3].toNat / 2 ^ 33 := by
  rw [pressureCoefs_eq, stage2Divisor_eq_asr]
  rfl

/-- The quotient of the registers, written out but for its divisor (R107). -/
theorem stage2Quotient_pressureCoefs (adc f : Int) (s : State) : stage2Quotient adc f (pressureCoefs s) =
    Int.tdiv (((1048576 - adc) * 2 ^ 31 - ((f - 128000) * (f - 128000) * s.cal[8].toInt +
      (f - 128000) * s.cal[7].toInt * 2 ^ 17 + s.cal[6].toInt * 2 ^ 35)) * 3125)
      (stage2Divisor f (pressureCoefs s)) := by
  rw [stage2Quotient, pressureCoefs_eq]
  rfl

/-- The correction by the registers, written out (R107). -/
theorem stage2Correct_pressureCoefs (p : Int) (s : State) : stage2Correct p (pressureCoefs s) =
    (p + s.cal[11].toInt * (p / 2 ^ 13) * (p / 2 ^ 13) / 2 ^ 25 + s.cal[10].toInt * p / 2 ^ 19) / 2 ^ 8 +
      s.cal[9].toInt * 2 ^ 4 := by
  rw [pressureCoefs_eq]
  rfl

theorem compP_of_divisor_ne_zero {adc f : Int} {c : PressureCoefs} (h : stage2Divisor f c ≠ 0) :
    compP adc f c = some (stage2Correct (stage2Quotient adc f c) c) := if_neg h

/-- Settles O27: the three checks in order, then the two that the result of stage 2 decides. -/
theorem comppComputesStage2 : Obligations.ComppComputesStage2 := by
  refine fun s herr => ⟨fun hadc => ?input, fun hadc htab => ?cal, fun hadc htab htout => ?tfine,
    fun hadc htab htout => ?present⟩
  case input => exact exec_compp_of_error herr (comppBody_of_input_missing hadc)
  case cal => exact exec_compp_of_error herr (comppBody_of_cal_missing hadc (stage2Loaded_eq_false htab))
  case tfine =>
    exact exec_compp_of_error herr (comppBody_of_tfine_missing hadc (stage2Loaded_iff.mpr htab) htout)
  case present =>
    intro adc v P1 P2 P3 P4 P5 P6 P7 P8 P9 var2 div p r
    have hloaded := stage2Loaded_iff.mpr htab
    have hdiv : stage2Divisor (tFineOperand s) (pressureCoefs s) = div := stage2Divisor_pressureCoefs _ s
    have hp : stage2Quotient (adcP s).toNat (tFineOperand s) (pressureCoefs s) = p := by
      rw [stage2Quotient_pressureCoefs, hdiv, toNat_adcP]
      rfl
    have hr (h : div ≠ 0) : compP (adcP s).toNat (tFineOperand s) (pressureCoefs s) = some r := by
      rw [compP_of_divisor_ne_zero (hdiv.trans_ne h), hp, stage2Correct_pressureCoefs]
      rfl
    refine ⟨fun h0 => ?_, fun hne hout => ?_, fun hne hlo hhi => ?_⟩
    · have hres := pressureResult_of_none ((compP_eq_none_iff (adcP s).toNat _ _).mpr (hdiv.trans h0))
      exact exec_compp_of_error herr (comppBody_of_pressure_error hadc hloaded htout hres)
    · have hres := pressureResult_of_outside (hr hne) hout
      exact exec_compp_of_error herr (comppBody_of_pressure_error hadc hloaded htout hres)
    · have hres := pressureResult_of_inside (hr hne) hlo hhi
      have hbody := comppBody_eq_ok_iff.mpr ⟨hadc, hloaded, htout, _, hres, rfl⟩
      exact ⟨_, isCommitting_compp.next_of_ok herr hbody, rfl, congrArg _ (toNat_adcP s), toNat_pat32 hlo hhi⟩

/-! ## COMPTP -/

/-- Settles O32: COMPT's checks, then COMPP's but for TFINE_MISSING, and the commits of both stages. -/
theorem comptpComputesBothStages : Obligations.ComptpComputesBothStages := by
  intro s herr
  have hfail {c : ErrCode} (h : comptpBody s = .error c) := isCommitting_comptp.next_of_error herr h
  refine ⟨fun hadct => ?input1, fun hadct htab => ?cal1, fun hadct htab hadcp => ?input2,
    fun hadct htab1 hadcp htab2 => ?cal2, fun hadct hadcp hcal => ?present⟩
  case input1 => exact hfail (comptpBody_of_temperature_error (comptBody_of_input_missing hadct))
  case cal1 =>
    exact hfail (comptpBody_of_temperature_error (comptBody_of_cal_missing hadct (stage1Loaded_eq_false htab)))
  case input2 => exact hfail (comptpBody_of_pressure_input_missing hadct (stage1Loaded_iff.mpr htab) hadcp)
  case cal2 =>
    exact hfail (comptpBody_of_pressure_cal_missing hadct (stage1Loaded_iff.mpr htab1) hadcp
      (stage2Loaded_eq_false htab2))
  case present =>
    intro adcT' adcP' one two
    have htab1 : stage1Loaded s = true := by rw [stage1Loaded, hcal]; rfl
    have htab2 : stage2Loaded s = true := by rw [stage2Loaded, hcal]; rfl
    have hone : stage1Of s = one := by rw [stage1Of, toNat_adcT]
    have htwo : compP (adcP s).toNat (stage1Of s).tFine (pressureCoefs s) = two := by
      rw [hone, toNat_adcP]
      rfl
    refine ⟨fun hnone => ?_, fun r hsome hout => ?_, fun r hsome hlo hhi => ?_⟩
    · have hres := pressureResult_of_none (htwo.trans hnone)
      exact hfail (comptpBody_of_pressure_error hadct htab1 hadcp htab2 hres)
    · have hres := pressureResult_of_outside (htwo.trans hsome) hout
      exact hfail (comptpBody_of_pressure_error hadct htab1 hadcp htab2 hres)
    · have hres := pressureResult_of_inside (htwo.trans hsome) hlo hhi
      have hbody := comptpBody_eq_ok_iff.mpr ⟨hadct, htab1, hadcp, htab2, _, hres, rfl⟩
      exact ⟨_, isCommitting_comptp.next_of_ok herr hbody, rfl, congrArg _ (toNat_adcT s),
        (sext32_pat32_stage1Of s).trans (congrArg _ hone), (toInt_pat32_temp s).trans (congrArg _ hone),
        congrArg _ (toNat_adcP s), toNat_pat32 hlo hhi⟩

/-! ## A wrapping datapath as arithmetic on `BitVec.ofInt`

`BitVec.ofInt w` commutes with addition, subtraction, multiplication and left shift whatever wraps; with an arithmetic
right shift, a division and a test for zero where the operands fit in `w` bits. So a datapath is exact as soon as the
operands of these fit. -/

/-- `x` fits in `w` bits of two's complement. -/
def FitsBits (w : Nat) (x : Int) : Prop := -2 ^ (w - 1) ≤ x ∧ x < 2 ^ (w - 1)

section
variable {w : Nat} {x y : Int}

theorem FitsBits.of_bounds {lo hi : Int} (h : lo ≤ x ∧ x ≤ hi) (hlo : -2 ^ (w - 1) ≤ lo) (hhi : hi < 2 ^ (w - 1)) :
    FitsBits w x := ⟨hlo.trans h.1, h.2.trans_lt hhi⟩

theorem FitsBits.of_abs_le {M : Int} (h : |x| ≤ M) (hM : M < 2 ^ (w - 1)) : FitsBits w x :=
  .of_bounds (abs_le.mp h) (neg_le_neg hM.le) hM

theorem toInt_ofInt_of_fits (hw : 0 < w) (h : FitsBits w x) : (BitVec.ofInt w x).toInt = x :=
  BitVec.toInt_ofInt_eq_self hw h.1 h.2

theorem ofInt_sub (w : Nat) (x y : Int) : BitVec.ofInt w (x - y) = BitVec.ofInt w x - BitVec.ofInt w y := by
  rw [eq_sub_iff_add_eq, ← BitVec.ofInt_add, sub_add_cancel]

theorem ofInt_shl (w : Nat) (x : Int) (k : Nat) : BitVec.ofInt w (shl x k) = BitVec.ofInt w x <<< k := by
  have hpow : BitVec.ofInt w (2 ^ k) = BitVec.twoPow w k := by
    apply BitVec.eq_of_toNat_eq
    rw [BitVec.toNat_twoPow, ← BitVec.toNat_ofNat, ← BitVec.ofInt_natCast]
    norm_cast
  rw [shl, BitVec.ofInt_mul, hpow, BitVec.shiftLeft_eq_mul_twoPow]

theorem ofInt_asr (hw : 0 < w) (h : FitsBits w x) (k : Nat) :
    BitVec.ofInt w (asr x k) = (BitVec.ofInt w x).sshiftRight k := by
  rw [BitVec.sshiftRight, toInt_ofInt_of_fits hw h, Int.shiftRight_eq_div_pow, asr]
  norm_cast

theorem ofInt_tdiv (hw : 0 < w) (hx : FitsBits w x) (hy : FitsBits w y) :
    BitVec.ofInt w (tdiv x y) = (BitVec.ofInt w x).sdiv (BitVec.ofInt w y) := by
  apply BitVec.eq_of_toInt_eq
  rw [BitVec.toInt_sdiv, toInt_ofInt_of_fits hw hx, toInt_ofInt_of_fits hw hy, BitVec.toInt_ofInt, tdiv]

theorem ofInt_eq_zero_iff (hw : 0 < w) (h : FitsBits w x) : BitVec.ofInt w x = 0#w ↔ x = 0 := by
  rw [← BitVec.toInt_inj, toInt_ofInt_of_fits hw h, BitVec.toInt_zero]

end

theorem signExtend_half (w : Nat) (v : Half) : v.signExtend w = BitVec.ofInt w (s16 v) := by
  rw [s16_eq_toInt, BitVec.signExtend]

theorem setWidth_eq_ofInt {n : Nat} (w : Nat) (v : BitVec n) : v.setWidth w = BitVec.ofInt w v.toNat := by
  rw [BitVec.ofInt_natCast, ← BitVec.ofNat_toNat]

theorem widenCoef_eq_ofInt (k : Fin 12) (v : Half) : widenCoef k v = BitVec.ofInt 132 (interpretCoef k v) := by
  rw [widenCoef, interpretCoef, setWidth_eq_ofInt, signExtend_half, apply_ite (BitVec.ofInt 132)]

/-! ## Stage 1 in 36 bits -/

/-- The five operands of right shifts and the two results fit in 36 bits, so the datapath is the exact function. -/
theorem compT36_eq_ofInt (adc : Count) (t1 t2 t3 : Half) : compT36 adc t1 t2 t3 =
    (BitVec.ofInt 36 (compT adc.toNat t1.toNat (s16 t2) (s16 t3)).tFine,
      BitVec.ofInt 36 (compT adc.toNat t1.toNat (s16 t2) (s16 t3)).temp) := by
  have hadc := count_bounds adc
  have h1 := toNat_half_bounds t1
  have hcount : FitsBits 36 (adc.toNat : Int) := .of_bounds ⟨hadc.1, hadc.2.le⟩ (by norm_num) (by norm_num)
  have hlin := FitsBits.of_bounds (w := 36) (stage1_linear_bounds hadc h1 (s16_bounds t2)) (by norm_num) (by norm_num)
  have hsq := FitsBits.of_bounds (w := 36) (stage1_square_bounds hadc h1) (by norm_num) (by norm_num)
  have hquad := FitsBits.of_bounds (w := 36) (stage1_quadratic_bounds hadc h1 (s16_bounds t3))
    (by norm_num) (by norm_num)
  have hscaled : FitsBits 36 ((compT adc.toNat t1.toNat (s16 t2) (s16 t3)).tFine * 5 + 128) := by
    have hf := compT_tFine_bounds hadc h1 (s16_bounds t2) (s16_bounds t3)
    exact .of_bounds (lo := -2 ^ 25) (hi := 2 ^ 25) (by omega) (by norm_num) (by norm_num)
  simp only [compT, stage1Var1, stage1Var2] at hscaled ⊢
  simp only [compT36, setWidth_eq_ofInt, signExtend_half, BitVec.ofInt_add, BitVec.ofInt_mul, ofInt_sub, ofInt_shl,
    ofInt_asr (by decide) hcount, ofInt_asr (by decide) hlin, ofInt_asr (by decide) hsq, ofInt_asr (by decide) hquad,
    ofInt_asr (by decide) hscaled, BitVec.ofInt_ofNat]

/-- Settles O26: both results fit in 36 bits, so reading the datapath's outputs as signed gives them back. -/
theorem stage1FitsThirtySixBits : Obligations.Stage1FitsThirtySixBits := by
  intro adc t1 t2 t3
  have hf := compT_tFine_bounds (count_bounds adc) (toNat_half_bounds t1) (s16_bounds t2) (s16_bounds t3)
  have ht := compT_temp_bounds (count_bounds adc) (toNat_half_bounds t1) (s16_bounds t2) (s16_bounds t3)
  rw [compT36_eq_ofInt]
  exact ⟨toInt_ofInt_of_fits (by decide) (.of_bounds hf (by norm_num) (by norm_num)),
    toInt_ofInt_of_fits (by decide) (.of_bounds ht (by norm_num) (by norm_num))⟩

/-! ## Stage 2 in 132 bits -/

/-- The numerator of stage 2's division (R107). -/
def stage2Numerator (adc tFine : Int) (c : PressureCoefs) : Int :=
  (shl (1048576 - adc) 31 - stage2Var2 tFine c) * 3125

theorem stage2Quotient_eq_tdiv (adc tFine : Int) (c : PressureCoefs) :
    stage2Quotient adc tFine c = tdiv (stage2Numerator adc tFine c) (stage2Divisor tFine c) := rfl

theorem abs_tdiv_le_abs (n d : Int) : |tdiv n d| ≤ |n| := by
  rw [tdiv, Int.abs_eq_natAbs, Int.abs_eq_natAbs]
  exact_mod_cast Int.natAbs_tdiv_le_natAbs n d

section
variable {adc tFine : Int} (hadc : 0 ≤ adc ∧ adc < 2 ^ 20) (hf : -4194224 ≤ tFine ∧ tFine ≤ 4194144) (s : State)
include hadc hf

theorem abs_stage2Numerator_le : |stage2Numerator adc tFine (pressureCoefs s)| ≤ 7 * 2 ^ 68 := by
  have hquad := stage2_quadratic_bounds hf (p := (pressureCoefs s).p6) (coef_signed_bounds (k := 8) rfl s)
  have hlin := stage2_linear_bounds hf (p := (pressureCoefs s).p5) (coef_signed_bounds (k := 7) rfl s)
  have hp4 : -32768 ≤ (pressureCoefs s).p4 ∧ (pressureCoefs s).p4 ≤ 32767 := coef_signed_bounds (k := 6) rfl s
  simp only [stage2Numerator, stage2Var2, shl, abs_le]
  omega

/-- No more is known of the quotient than of its numerator: the divisor may be 1. -/
theorem abs_stage2Quotient_le : |stage2Quotient adc tFine (pressureCoefs s)| ≤ 7 * 2 ^ 68 :=
  (abs_tdiv_le_abs _ _).trans (abs_stage2Numerator_le hadc hf s)

end

section
variable {p : Int} (hp : |p| ≤ 7 * 2 ^ 68) (s : State)
include hp

/-- The widest value of stage 2, the product of its P9 term: it needs 132 bits. -/
theorem abs_p9_term_le : |(pressureCoefs s).p9 * asr p 13 * asr p 13| ≤ 49 * 2 ^ 125 := by
  have hp9 : |(pressureCoefs s).p9| ≤ 2 ^ 15 := abs_coef_le (k := 11) rfl s
  have hshift : |asr p 13| ≤ 7 * 2 ^ 55 := abs_asr_le (hp.trans (by norm_num))
  exact (abs_mul_le (abs_mul_le hp9 hshift) hshift).trans (by norm_num)

theorem abs_p8_term_le : |(pressureCoefs s).p8 * p| ≤ 7 * 2 ^ 83 := by
  have hp8 : |(pressureCoefs s).p8| ≤ 2 ^ 15 := abs_coef_le (k := 10) rfl s
  exact (abs_mul_le hp8 hp).trans (by norm_num)

/-- The sum of stage 2's three terms before the last shift. -/
theorem abs_stage2_sum_le :
    |p + asr ((pressureCoefs s).p9 * asr p 13 * asr p 13) 25 + asr ((pressureCoefs s).p8 * p) 19| ≤ 50 * 2 ^ 100 := by
  have hw1 : |asr ((pressureCoefs s).p9 * asr p 13 * asr p 13) 25| ≤ 49 * 2 ^ 100 :=
    abs_asr_le ((abs_p9_term_le hp s).trans (by norm_num))
  have hw2 : |asr ((pressureCoefs s).p8 * p) 19| ≤ 7 * 2 ^ 64 := abs_asr_le ((abs_p8_term_le hp s).trans (by norm_num))
  rw [abs_le] at hp hw1 hw2 ⊢
  omega

theorem abs_stage2Correct_le : |stage2Correct p (pressureCoefs s)| ≤ 51 * 2 ^ 92 := by
  have hsum : |asr (p + asr ((pressureCoefs s).p9 * asr p 13 * asr p 13) 25 + asr ((pressureCoefs s).p8 * p) 19) 8| ≤
      50 * 2 ^ 92 := abs_asr_le ((abs_stage2_sum_le hp s).trans (by norm_num))
  have hp7 : |(pressureCoefs s).p7| ≤ 2 ^ 15 := abs_coef_le (k := 9) rfl s
  simp only [stage2Correct, shl, abs_le] at hsum hp7 ⊢
  omega

/-- The correction's operations in 132 bits. -/
theorem ofInt_stage2Correct : BitVec.ofInt 132 (stage2Correct p (pressureCoefs s)) =
    (BitVec.ofInt 132 p +
        (BitVec.ofInt 132 (coef 11 s) * (BitVec.ofInt 132 p).sshiftRight 13 *
          (BitVec.ofInt 132 p).sshiftRight 13).sshiftRight 25 +
        (BitVec.ofInt 132 (coef 10 s) * BitVec.ofInt 132 p).sshiftRight 19).sshiftRight 8 +
      BitVec.ofInt 132 (coef 9 s) <<< 4 := by
  have hpfit := FitsBits.of_abs_le (w := 132) hp (by norm_num)
  have hw1 := FitsBits.of_abs_le (w := 132) (abs_p9_term_le hp s) (by norm_num)
  have hw2 := FitsBits.of_abs_le (w := 132) (abs_p8_term_le hp s) (by norm_num)
  have hsum := FitsBits.of_abs_le (w := 132) (abs_stage2_sum_le hp s) (by norm_num)
  simp only [stage2Correct, BitVec.ofInt_add, BitVec.ofInt_mul, ofInt_shl, ofInt_asr (by decide) hpfit,
    ofInt_asr (by decide) hw1, ofInt_asr (by decide) hw2, ofInt_asr (by decide) hsum]
  rfl

end

theorem fitsBits_stage2Divisor {tFine : Int} (hf : -4194224 ≤ tFine ∧ tFine ≤ 4194144) (s : State) :
    FitsBits 132 (stage2Divisor tFine (pressureCoefs s)) :=
  .of_bounds (stage2Divisor_bounds hf s) (by norm_num) (by norm_num)

/-- The divisor's operations in 132 bits. -/
theorem ofInt_stage2Divisor {tFine : Int} (hf : -4194224 ≤ tFine ∧ tFine ≤ 4194144) (s : State) :
    BitVec.ofInt 132 (stage2Divisor tFine (pressureCoefs s)) =
      ((1#132 <<< 47 +
        (((BitVec.ofInt 132 tFine - 128000#132) * (BitVec.ofInt 132 tFine - 128000#132) *
            BitVec.ofInt 132 (coef 5 s)).sshiftRight 8 +
          ((BitVec.ofInt 132 tFine - 128000#132) * BitVec.ofInt 132 (coef 4 s)) <<< 12)) *
        BitVec.ofInt 132 (coef 3 s)).sshiftRight 33 := by
  have hquad := FitsBits.of_bounds (w := 132)
    (stage2_quadratic_bounds hf (p := (pressureCoefs s).p3) (coef_signed_bounds (k := 5) rfl s))
    (by norm_num) (by norm_num)
  have hscaled := FitsBits.of_bounds (w := 132) (stage2Scaled_bounds hf s) (by norm_num) (by norm_num)
  have hone : (2 ^ 47 : Int) = shl 1 47 := by rw [shl, one_mul]
  rw [stage2Divisor_eq_asr, ofInt_asr (by decide) hscaled]
  simp only [stage2Scaled, hone, stage2Var1, BitVec.ofInt_add, BitVec.ofInt_mul, ofInt_sub, ofInt_shl,
    ofInt_asr (by decide) hquad, BitVec.ofInt_ofNat]
  rfl

/-- The quotient's operations in 132 bits, but for the divisor's. -/
theorem ofInt_stage2Quotient {adc tFine : Int} (hadc : 0 ≤ adc ∧ adc < 2 ^ 20)
    (hf : -4194224 ≤ tFine ∧ tFine ≤ 4194144) (s : State) :
    BitVec.ofInt 132 (stage2Quotient adc tFine (pressureCoefs s)) =
      (((1048576#132 - BitVec.ofInt 132 adc) <<< 31 -
        ((BitVec.ofInt 132 tFine - 128000#132) * (BitVec.ofInt 132 tFine - 128000#132) * BitVec.ofInt 132 (coef 8 s) +
          ((BitVec.ofInt 132 tFine - 128000#132) * BitVec.ofInt 132 (coef 7 s)) <<< 17 +
          BitVec.ofInt 132 (coef 6 s) <<< 35)) * 3125#132).sdiv
        (BitVec.ofInt 132 (stage2Divisor tFine (pressureCoefs s))) := by
  have hnum := FitsBits.of_abs_le (w := 132) (abs_stage2Numerator_le hadc hf s) (by norm_num)
  rw [stage2Quotient_eq_tdiv, ofInt_tdiv (by decide) hnum (fitsBits_stage2Divisor hf s)]
  simp only [stage2Numerator, stage2Var2, BitVec.ofInt_add, BitVec.ofInt_mul, ofInt_sub, ofInt_shl,
    BitVec.ofInt_ofNat]
  rfl

/-- The 132-bit datapath is the exact function, degenerate case included. -/
theorem compP132_eq_ofInt (adc : Count) {f : Word} (hf : -4194224 ≤ f.toInt ∧ f.toInt ≤ 4194144) (s : State) :
    compP132 adc f s.cal = (compP adc.toNat f.toInt (pressureCoefs s)).map (BitVec.ofInt 132) := by
  have hadc := count_bounds adc
  have hq := abs_stage2Quotient_le hadc hf s
  have hzero := ofInt_eq_zero_iff (by decide) (fitsBits_stage2Divisor hf s)
  have hcoef (k : Fin 12) : interpretCoef k s.cal[k] = coef k s := rfl
  simp only [compP132, widenCoef_eq_ofInt, hcoef, setWidth_eq_ofInt, BitVec.signExtend, ← ofInt_stage2Divisor hf s,
    ← ofInt_stage2Quotient hadc hf s, ← ofInt_stage2Correct hq s, hzero, compP,
    apply_ite (Option.map (BitVec.ofInt 132)), Option.map_none, Option.map_some]

/-- Settles O31: the result fits in 132 bits with room to spare, so reading it as signed gives it back. -/
theorem stage2Fits132Bits : Obligations.Stage2Fits132Bits := by
  intro adc f s hlo hhi
  have hf := And.intro hlo hhi
  have hq := abs_stage2Quotient_le (count_bounds adc) hf s
  have hfit := FitsBits.of_abs_le (w := 132) (abs_stage2Correct_le hq s) (by norm_num)
  rw [compP132_eq_ofInt adc hf s]
  by_cases hd : stage2Divisor f.toInt (pressureCoefs s) = 0
  · rw [(compP_eq_none_iff _ _ _).mpr hd, Option.map_none, Option.map_none]
  · rw [compP_of_divisor_ne_zero hd, Option.map_some, Option.map_some, toInt_ofInt_of_fits (by decide) hfit]

end Sys2Proof.Machine

/-! SUPPORT. The control commands (42_control.md): their effects (R131 to R134), what they leave to be read (R47, R48),
and the failures that follow CLRCAL (R132). -/

namespace Sys2Proof.Machine

/-! ## What each command does -/

theorem exec_nop (s : State) : exec .nop s = .next s := rfl

theorem exec_clrcal (s : State) : exec .clrcal s = .next (gated clearCalibration s) := rfl

theorem exec_clrerr (s : State) : exec .clrerr s = .next (clearError s) := rfl

theorem exec_srst (s : State) : exec .srst s = .next (resetRegisters s) := rfl

/-- Settles O35: none of the three is gated, so each has its one effect in every state. -/
theorem controlCommandsAlwaysExecute : Obligations.ControlCommandsAlwaysExecute := fun s =>
  ⟨exec_nop s, exec_clrerr s, exec_srst s⟩

/-! ## Reads after SRST -/

theorem getElem_cal_resetRegisters (k : Fin 12) (s : State) : (resetRegisters s).cal[k] = 0#16 := by simp

/-- The raw word 0 is the number 0, read signed or unsigned (10_state.md R30). -/
theorem coef_resetRegisters (k : Fin 12) (s : State) : coef k (resetRegisters s) = 0 := by
  rw [coef, getElem_cal_resetRegisters, interpretCoef_eq_toInt]
  simp

theorem statusWord_resetRegisters (s : State) : statusWord (resetRegisters s) = 0#32 := by
  simp [statusWord]

theorem readReg_resetRegisters (r : Reg) (s : State) : readReg r (resetRegisters s) = 0#32 := by
  cases r with
  | status => exact statusWord_resetRegisters s
  | cal k => exact congrArg pat32 (coef_resetRegisters k s)
  | _ => rfl

theorem readOffset_resetRegisters (off : Offset) (s : State) : readOffset off (resetRegisters s) = 0#32 := by
  cases hr : regAt off with
  | none => exact readOffset_of_bad _ hr
  | some r =>
    obtain rfl := offsetOf_of_regAt hr
    rw [readOffset_offsetOf, readReg_resetRegisters]

/-- Settles O36: a register reads 0 after SRST, and an offset that names none reads 0 in every state. -/
theorem srstReadsZeroEverywhere : Obligations.SrstReadsZeroEverywhere := fun s =>
  ⟨resetRegisters s, exec_srst s, (readOffset_resetRegisters · s), (getElem_cal_resetRegisters · s)⟩

/-! ## Reads after CLRCAL -/

/-- The valid bits that CLRCAL clears are read through STATUS only; CALk reads as the word it still holds. -/
theorem readReg_clearCalibration {r : Reg} (s : State) (hr : r ≠ .status) :
    readReg r (clearCalibration s) = readReg r s := by
  cases r with
  | status => exact absurd rfl hr
  | _ => rfl

theorem readOffset_clearCalibration {off : Offset} (s : State) (hoff : off ≠ offsetOf .status) :
    readOffset off (clearCalibration s) = readOffset off s := by
  cases hr : regAt off with
  | none => rw [readOffset_of_bad _ hr, readOffset_of_bad _ hr]
  | some r =>
    obtain rfl := offsetOf_of_regAt hr
    rw [readOffset_offsetOf, readOffset_offsetOf, readReg_clearCalibration s (ne_of_apply_ne offsetOf hoff)]

/-! ## The compensation commands after CLRCAL -/

theorem stage1Loaded_clearCalibration (s : State) : stage1Loaded (clearCalibration s) = false :=
  stage1Loaded_eq_false (by simp)

theorem stage2Loaded_clearCalibration (s : State) : stage2Loaded (clearCalibration s) = false :=
  stage2Loaded_eq_false (by simp)

/-- Both compensated outputs are absent after CLRCAL, so a failing compensation command clears no valid bit: it only
records its error (60_exceptions.md R146). -/
theorem IsCommitting.next_of_error_clearCalibration {i : Instr} {g : OutGroups} {b : State → Except ErrCode State}
    {s : State} {c : ErrCode} (hi : IsCommitting i g b) (hg : g.h = false) (herr : s.err = false)
    (h : b (clearCalibration s) = .error c) :
    exec i (clearCalibration s) = .next { clearCalibration s with err := true, errcode := codeBits c } := by
  rw [hi.next_of_error (s := clearCalibration s) herr h]
  simp [failed, hg]

/-- Settles O37: no register but STATUS shows a valid bit. With CAL_V empty, each command that finds its first input
present stops at its check of the table, and TOUT and POUT are absent already. -/
theorem clrcalInvalidatesTheTable : Obligations.ClrcalInvalidatesTheTable := by
  intro s
  refine ⟨fun herr => ?gated, fun herr =>
    ⟨clearCalibration s, ?effect, rfl, fun _ => readOffset_clearCalibration s, fun hadct => ?compt, fun hadcp => ?compp,
      fun hadct => ?comptp⟩⟩
  case gated => rw [exec_clrcal, gated_of_err herr]
  case effect => rw [exec_clrcal, gated_of_no_err herr]
  case compt =>
    exact isCommitting_compt.next_of_error_clearCalibration rfl herr
      (comptBody_of_cal_missing hadct (stage1Loaded_clearCalibration s))
  case compp =>
    exact isCommitting_compp.next_of_error_clearCalibration rfl herr
      (comppBody_of_cal_missing hadcp (stage2Loaded_clearCalibration s))
  case comptp =>
    exact isCommitting_comptp.next_of_error_clearCalibration rfl herr
      (comptpBody_of_temperature_error (comptBody_of_cal_missing hadct (stage1Loaded_clearCalibration s)))

end Sys2Proof.Machine

/-! SUPPORT. Errors (60_exceptions.md): an instruction answers a next state whatever it meets (R148), what a recorded error
gates (R149), and what recording one leaves (R145 to R147). -/

namespace Sys2Proof.Machine

/-! ## Every instruction answers a next state -/

theorem exists_exec_ofCommand_next (c : Command) (s : State) : ∃ t, exec (.ofCommand c) s = .next t := by
  cases c <;> exact ⟨_, rfl⟩

theorem exists_writeCommand_next (w : Word) (s : State) : ∃ t, writeCommand w s = .next t := by
  obtain ⟨c, -, heq⟩ | ⟨e, -, heq⟩ := writeCommand_cases w s
  · rw [heq, runCommand_eq_exec]
    exact exists_exec_ofCommand_next c s
  · exact ⟨_, heq⟩

theorem exists_execWr_next (off : Offset) (v : Word) (s : State) : ∃ t, execWr off v s = .next t := by
  cases hr : regAt off with
  | none => exact ⟨_, execWr_of_bad v s hr⟩
  | some r =>
    rw [execWr_of_regAt v s hr]
    cases r with
    | cmd => exact exists_writeCommand_next v s
    | _ => exact ⟨_, rfl⟩

/-- No instruction stops the CPD: an error is recorded and the CPD goes on (60_exceptions.md R148). -/
theorem exists_exec_next (i : Instr) (s : State) : ∃ t, exec i s = .next t := by
  cases i with
  | rd off => exact ⟨_, exec_rd off s⟩
  | wr off v => exact exists_execWr_next off v s
  | _ => exact ⟨_, rfl⟩

/-- The step's one refusal is a second agent's transaction, which does not stand first (20_memory.md R59). -/
theorem exists_step_next {s : State} (hs : SingleHost s) : ∃ t, step s = .next t := by
  obtain ⟨-, heq⟩ | ⟨rest, -, heq⟩ | ⟨r, rest, -, heq⟩ | ⟨r, rest, hp, -⟩ := step_cases s
  · exact ⟨_, heq⟩
  · exact ⟨_, heq⟩
  · obtain ⟨i, hperform⟩ := perform_eq_exec r (beginEvent rest s)
    rw [heq, hperform]
    exact exists_exec_next i _
  · exact absurd (hp ▸ List.mem_cons_self) (hs r)

/-- Settles O9: a step only takes an event off the port, so no second agent comes to stand there. -/
theorem singleHostNeverStops : Obligations.SingleHostNeverStops := by
  intro s hs
  obtain ⟨t, hstep⟩ := exists_step_next hs
  obtain ⟨hport, -⟩ := stepTakesTheFirstEvent
  refine ⟨t, hstep, fun r hr => hs r ?_⟩
  rw [hport s t hstep] at hr
  exact List.mem_of_mem_tail hr

/-! ## What a recorded error gates -/

theorem exec_ofCommand_of_err {c : Command} {s : State} (herr : s.err = true) (hclrerr : c ≠ .clrerr)
    (hsrst : c ≠ .srst) : exec (.ofCommand c) s = .next s := by
  cases c with
  | nop => exact exec_nop s
  | decht => exact isCommitting_decht.next_of_err herr
  | compt => exact isCommitting_compt.next_of_err herr
  | compp => exact isCommitting_compp.next_of_err herr
  | comptp => exact isCommitting_comptp.next_of_err herr
  | clrcal => exact (exec_clrcal s).trans (congrArg _ (gated_of_err herr))
  | clrerr => exact absurd rfl hclrerr
  | srst => exact absurd rfl hsrst

/-- The gating stands before the decode of an illegal word (60_exceptions.md R150). -/
theorem exec_wr_cmd_of_err {w : Word} {s : State} (herr : s.err = true) (hclrerr : w ≠ encodeCommand .clrerr)
    (hsrst : w ≠ encodeCommand .srst) : exec (.wr 0x00#8 w) s = .next s := by
  cases hw : decodeCommand w with
  | error e => rw [exec_wr_cmd_of_refused s hw, illegalCommand, gated_of_err herr]
  | ok c =>
    obtain rfl := encodeCommand_of_decodeCommand hw
    obtain ⟨-, hrun, -⟩ := cmdWriteRunsTheCommand
    rw [hrun, exec_ofCommand_of_err herr (ne_of_apply_ne encodeCommand hclrerr) (ne_of_apply_ne encodeCommand hsrst)]

/-- The write of an input register neither reads nor writes ERR and ERRCODE. -/
theorem writeReg_of_clearError {r : Reg} {v : Word} {s t : State} (hacc : accessOf r = .readWrite)
    (h : writeReg r v (clearError s) = .next t) :
    writeReg r v s = .next { t with err := s.err, errcode := s.errcode } := by
  cases r with
  | htIn0 | htIn1 | adctIn | adcpIn | cal => cases h; rfl
  | _ => cases hacc

/-- Settles O38: ERR gates every word but CLRERR's and SRST's, NOP's with no effect to lose; a bad write records nothing
over an error, and reads and input writes do not ask for ERR. -/
theorem errorGatesCommands : Obligations.ErrorGatesCommands := by
  intro s herr
  refine ⟨fun w _ hclrerr hsrst => exec_wr_cmd_of_err herr hclrerr hsrst, exec_wr_cmd_of_err herr (by decide) (by decide),
    exec_clrerr s, exec_srst s, fun off v hbad => ?bad, fun off => exec_rd off s, fun off v t hin hexec => ?input⟩
  case bad => rw [exec_wr_of_badWriteOffset v s hbad, badWrite, raiseError_noGroups_of_err _ herr]
  case input =>
    obtain ⟨r, rfl, hacc⟩ := exists_reg_of_inputOffset hin
    rw [exec_wr_offsetOf] at hexec ⊢
    rw [writeReg_of_clearError hacc hexec, herr]

/-! ## What recording an error leaves -/

theorem raiseError_of_no_err {s : State} (code : ErrCode) (g : OutGroups) (h : s.err = false) :
    raiseError code g s = failed (codeBits code) g s := by
  simp [raiseError, failed, h]

theorem groupsOf_of_commandOf_none {i : Instr} (hc : commandOf i = none) : groupsOf i = noGroups := by
  simp [groupsOf, hc]

/-- Of the effects on a state without an error, only a refused write and a failing command set ERR, each for the output
groups of its own instruction (60_exceptions.md R146). -/
theorem Effect.eq_raiseError {i : Instr} {s t : State} (he : Effect s i t) (hno : s.err = false) (herr : t.err = true) :
    ∃ code, t = raiseError code (groupsOf i) s := by
  cases he with
  | refused code hc => exact ⟨code, by rw [groupsOf_of_commandOf_none hc]⟩
  | failure code _ _ => exact ⟨code, rfl⟩
  | clrerr _ | srst _ => cases herr
  | _ => cases hno.symm.trans herr

/-- Settles O40: the state recorded is `failed` with one of the seven codes of R145. -/
theorem failuresAreNeverPartial : Obligations.FailuresAreNeverPartial := by
  intro i s t hno hexec herr
  obtain ⟨code, rfl⟩ := (Effect.of_exec hexec).eq_raiseError hno herr
  rw [raiseError_of_no_err code _ hno]
  exact ⟨rfl, codeBits_legal code⟩

end Sys2Proof.Machine

/-! SUPPORT. Reset and the host's duties (70_reset_and_hazards.md): the registers after reset (R166, R167), the pressure
driver's reading (R179, R180), the calibration wait (R173, R174, R182), and an invocation that is cut off (R185). -/

namespace Sys2Proof.Machine

/-! ## Reset -/

/-- Settles O11: the reset state is what SRST leaves of it. -/
theorem resetZeroesEveryRegister : Obligations.ResetZeroesEveryRegister :=
  ⟨(readOffset_resetRegisters · State.reset), (getElem_cal_resetRegisters · State.reset), exec_srst⟩

theorem step_of_reset {s : State} {rest : List PortEvent} (h : s.pending = .reset :: rest) :
    step s = .next (resetRegisters (beginEvent rest s)) := by
  simp [step, h]

/-- Settles O12: `rst` begins as every event does, and then leaves of the state the port alone. -/
theorem rstResetsAnyState : Obligations.RstResetsAnyState := fun _ _ => step_of_reset

/-- No output is present after reset, so an error recorded there clears no valid bit. -/
theorem IsCommitting.reset_of_input_missing {i : Instr} {g : OutGroups} {b : State → Except ErrCode State}
    (hi : IsCommitting i g b) (h : b State.reset = .error .inputMissing) :
    exec i State.reset = .next { State.reset with err := true, errcode := 0x2#4 } :=
  hi.next_of_error rfl h

theorem pressureReading_of_absent {s : State} (h : s.poutV = false) : pressureReading s = none := by
  simp [pressureReading, h]

/-- Settles O13: each compute command stops at its first check of an input. -/
theorem resetLeavesNoInputs : Obligations.ResetLeavesNoInputs := by
  refine ⟨?decht, ?compt, ?compp, ?comptp, humidityReading_of_absent rfl, pressureReading_of_absent rfl⟩
  case decht => exact exec_decht_of_missing rfl (.inl rfl)
  case compt => exact isCommitting_compt.reset_of_input_missing (comptBody_of_input_missing rfl)
  case compp => exact isCommitting_compp.reset_of_input_missing (comppBody_of_input_missing rfl)
  case comptp =>
    exact isCommitting_comptp.reset_of_input_missing
      (comptpBody_of_temperature_error (comptBody_of_input_missing rfl))

/-! ## The pressure driver's reading -/

theorem pressureReading_of_present {s : State} (htout : s.toutV = true) (hpout : s.poutV = true) :
    pressureReading s = some ((s.tout.toInt : ℚ) / 100, (s.pout.toNat : ℚ) / 256) := by
  simp [pressureReading, htout, hpout, celsius, pascals, sext32]

theorem poutV_of_failure {i : Instr} {s t : State} (hno : s.err = false) (hexec : exec i s = .next t)
    (herr : t.err = true) (hp : (groupsOf i).p = true) : t.poutV = false := by
  obtain ⟨hfailed, -⟩ := failuresAreNeverPartial i s t hno hexec herr
  rw [hfailed]
  simp [failed, hp]

/-- COMPT then COMPP, when the COMPP records no error: neither does the COMPT, so the two are a COMPTP. -/
theorem exec_comptp_of_compt_compp {s t u : State} (hno : s.err = false) (hcompt : exec .compt s = .next t)
    (hcompp : exec .compp t = .next u) (huerr : u.err = false) : exec .comptp s = .next u := by
  cases hterr : t.err with
  | false => exact comptpIsComptThenCompp s t u hno hcompt hterr hcompp huerr
  | true =>
    cases (isCommitting_compp.next_of_err hterr).symm.trans hcompp
    cases hterr.symm.trans huerr

/-- A COMPP that the error of the COMPT before it gates leaves the pressure absent as that failure left it. -/
theorem poutV_of_compt_compp_failure {s t u : State} (hno : s.err = false) (hcompt : exec .compt s = .next t)
    (hcompp : exec .compp t = .next u) (huerr : u.err = true) : u.poutV = false := by
  cases hterr : t.err with
  | false => exact poutV_of_failure hterr hcompp huerr rfl
  | true =>
    cases (isCommitting_compp.next_of_err hterr).symm.trans hcompp
    exact poutV_of_failure hno hcompt hterr rfl

/-- Settles O41: every failure on either way leaves the pressure absent, and a success on either way is a COMPTP's,
which commits both stages. -/
theorem pressureReadingIsNeverPartial : Obligations.PressureReadingIsNeverPartial := by
  intro s u hno hrun
  constructor
  · intro huerr
    obtain hone | ⟨t, hcompt, hcompp⟩ := hrun
    · exact pressureReading_of_absent (poutV_of_failure hno hone huerr rfl)
    · exact pressureReading_of_absent (poutV_of_compt_compp_failure hno hcompt hcompp huerr)
  · intro huerr
    have hone : exec .comptp s = .next u := by
      obtain hone | ⟨t, hcompt, hcompp⟩ := hrun
      · exact hone
      · exact exec_comptp_of_compt_compp hno hcompt hcompp huerr
    obtain ⟨-, -, -, -, p, -, rfl⟩ := comptpBody_eq_ok_iff.mp (isCommitting_comptp.ok_of_next hno hone huerr)
    exact pressureReading_of_present rfl rfl

/-! ## The calibration wait -/

/-- A round of the wait whose status is not ready (70_reset_and_hazards.md R173), and then what `t` did. -/
def WaitTrace.afterRound (t : WaitTrace) : WaitTrace where
  ops := statusRead :: initWrite :: .waitAtLeast 50 :: t.ops
  outcome := t.outcome

theorem outcome_afterRound_iterate (k : Nat) (t : WaitTrace) : (WaitTrace.afterRound^[k] t).outcome = t.outcome := by
  induction k with
  | zero => rfl
  | succ k ih => rw [Function.iterate_succ_apply', WaitTrace.afterRound, ih]

/-- A round holds one init write. -/
theorem count_initWrite_afterRound_iterate (k : Nat) (t : WaitTrace) :
    (WaitTrace.afterRound^[k] t).ops.count initWrite = t.ops.count initWrite + k := by
  induction k with
  | zero => rfl
  | succ k ih =>
    rw [Function.iterate_succ_apply', WaitTrace.afterRound, List.count_cons_of_ne (by decide), List.count_cons_self,
      List.count_cons_of_ne (by decide), ih, Nat.add_assoc]

theorem awaitCalibration_ready (limit : Option Nat) (rest : List Poll) :
    awaitCalibration limit (.status readyStatus :: rest) = { ops := [statusRead], outcome := .ready } := by
  rw [awaitCalibration, if_pos rfl]

section
variable {b : Byte} {bs : List Byte} (polls : List Poll)

theorem awaitCalibration_at_bound (hb : b ≠ readyStatus) :
    awaitCalibration (some 0) (.status b :: polls) = { ops := [statusRead], outcome := .timeout } := by
  rw [awaitCalibration, if_neg hb, if_pos rfl]

theorem awaitCalibration_not_ready {limit : Option Nat} (hb : b ≠ readyStatus) (hlimit : limit ≠ some 0) :
    awaitCalibration limit (.status b :: polls) = (awaitCalibration (limit.map (· - 1)) polls).afterRound := by
  rw [awaitCalibration, if_neg hb, if_neg hlimit]
  rfl

/-- Without a bound, a round for each status that is not ready. -/
theorem awaitCalibration_unbounded (hbs : ∀ b ∈ bs, b ≠ readyStatus) :
    awaitCalibration none (bs.map .status ++ polls) =
      WaitTrace.afterRound^[bs.length] (awaitCalibration none polls) := by
  induction bs with
  | nil => rfl
  | cons b bs ih =>
    obtain ⟨hb, hbs⟩ := List.forall_mem_cons.mp hbs
    rw [List.map_cons, List.cons_append, awaitCalibration_not_ready (limit := none) _ hb nofun, List.length_cons,
      Function.iterate_succ_apply', ← ih hbs]
    rfl

/-- With a bound that the statuses exceed, as many rounds as the bound and one status read more. -/
theorem awaitCalibration_bounded {n : Nat} (hbs : ∀ b ∈ bs, b ≠ readyStatus) (hn : n < bs.length) :
    awaitCalibration (some n) (bs.map .status ++ polls) =
      WaitTrace.afterRound^[n] { ops := [statusRead], outcome := .timeout } := by
  induction bs generalizing n with
  | nil => cases hn
  | cons b bs ih =>
    obtain ⟨hb, hbs⟩ := List.forall_mem_cons.mp hbs
    rw [List.map_cons, List.cons_append]
    cases n with
    | zero => exact awaitCalibration_at_bound _ hb
    | succ n =>
      rw [awaitCalibration_not_ready (limit := some (n + 1)) _ hb nofun, Function.iterate_succ_apply',
        ← ih hbs (Nat.lt_of_succ_lt_succ hn)]
      rfl

end

/-- Settles O49: a round for each status before the first 0x18, or for each init write the bound allows. -/
theorem calibrationWaitInitWrites : Obligations.CalibrationWaitInitWrites := by
  intro bs rest hbs
  have hunbounded : awaitCalibration none (bs.map .status ++ .status 0x18#8 :: rest) =
      WaitTrace.afterRound^[bs.length] { ops := [statusRead], outcome := .ready } :=
    (awaitCalibration_unbounded _ hbs).trans (congrArg _ (awaitCalibration_ready none rest))
  refine ⟨?ready, ?writes, fun n hn => ?bounded⟩
  case ready => rw [hunbounded, outcome_afterRound_iterate]
  case writes =>
    rw [hunbounded, count_initWrite_afterRound_iterate]
    exact Nat.zero_add _
  case bounded =>
    rw [awaitCalibration_bounded _ hbs hn, outcome_afterRound_iterate, count_initWrite_afterRound_iterate]
    exact ⟨rfl, Nat.zero_add n⟩

/-! ## A sensor that is never ready -/

/-- The sensor answers every status read, and never with the ready status. -/
def NeverReady (polls : Nat → Poll) : Prop := ∀ n, ∃ b, polls n = .status b ∧ b ≠ readyStatus

section
variable {polls : Nat → Poll} (h : NeverReady polls)
include h

theorem NeverReady.exists_statuses (n : Nat) : ∃ bs : List Byte,
    (List.range n).map polls = bs.map .status ∧ bs.length = n ∧ ∀ b ∈ bs, b ≠ readyStatus := by
  choose status hstatus hne using h
  refine ⟨(List.range n).map status, ?_, by simp, ?_⟩
  · rw [List.map_map]
    exact List.map_congr_left fun k _ => hstatus k
  · intro b hb
    obtain ⟨k, -, rfl⟩ := List.mem_map.mp hb
    exact hne k

theorem NeverReady.hangs : CalibrationHangs none polls := by
  intro n
  obtain ⟨bs, heq, -, hbs⟩ := h.exists_statuses n
  rw [heq, ← List.append_nil (bs.map _), awaitCalibration_unbounded [] hbs, outcome_afterRound_iterate,
    awaitCalibration]

theorem NeverReady.times_out {limit n : Nat} (hlimit : limit < n) :
    (awaitCalibration (some limit) ((List.range n).map polls)).outcome = .timeout := by
  obtain ⟨bs, heq, rfl, hbs⟩ := h.exists_statuses n
  rw [heq, ← List.append_nil (bs.map _), awaitCalibration_bounded [] hbs hlimit, outcome_afterRound_iterate]

end

/-- After a reset that succeeds, a wait that does not end ready decides how the invocation ends. -/
theorem humidityInvocation_of_wait {limit : Option Nat} {b : HumidityBus} (hreset : b.resetFails = none)
    (hwait : (traceOfWait (awaitCalibration limit b.polls)).outcome ≠ .completed) :
    (humidityInvocation limit b).outcome = (traceOfWait (awaitCalibration limit b.polls)).outcome := by
  have hcompleted : (runScript b.resetFails (humidityReset.map .bus)).outcome = .completed := by
    rw [hreset, runScript_none]
  rw [humidityInvocation, andThen_completed hcompleted, andThen_cut]
  exact hwait

/-- Settles O50: the wait goes on for as long as it is watched, or ends at its bound, and the driver with it. -/
theorem neverReadySensorHangs : Obligations.NeverReadySensorHangs := by
  intro polls hpolls
  have hnever : NeverReady polls := hpolls
  refine ⟨hnever.hangs, fun n m bytes r => ?hang, fun limit n m bytes r hlimit => ?timeout⟩
  case hang =>
    have hwait : (traceOfWait (awaitCalibration none ((List.range n).map polls))).outcome = .notEnded := by
      rw [traceOfWait, hnever.hangs n]
    rw [humidityInvocation_of_wait rfl (by rw [hwait]; nofun), hwait, driverReturn]
  case timeout =>
    have hwait : (traceOfWait (awaitCalibration (some limit) ((List.range n).map polls))).outcome =
        .calibrationTimeout := by
      rw [traceOfWait, hnever.times_out hlimit]
    rw [humidityInvocation_of_wait rfl (by rw [hwait]; nofun), hwait, driverReturn]

/-! ## An invocation that is cut off -/

/-- No CPD command is among the acts. -/
def NoCommand (acts : List HostAct) : Prop := ∀ c, HostAct.cpd (.cmd c) ∉ acts

theorem noCommand_append {xs ys : List HostAct} : NoCommand (xs ++ ys) ↔ NoCommand xs ∧ NoCommand ys := by
  simp only [NoCommand, List.mem_append, not_or, forall_and]

theorem noCommand_bus (ops : List BusOp) : NoCommand (ops.map .bus) := by
  simp [NoCommand]

theorem cmd_notMem_stmts_iff {t : HostTrace} : (∀ c, Stmt.cmd c ∉ t.stmts) ↔ NoCommand t.acts :=
  forall_congr' fun _ => not_congr mem_stmts

theorem canFail_of_mem_cpd {stmts : List Stmt} {a : HostAct} (ha : a ∈ stmts.map .cpd) : a.canFail = false := by
  obtain ⟨stmt, -, rfl⟩ := List.mem_map.mp ha
  rfl

/-- A failure cuts a script right after one of its bus transactions. -/
theorem exists_runScript_cut {fails : Option Nat} {script : List HostAct}
    (h : (runScript fails script).outcome ≠ .completed) :
    ∃ before op after, script = before ++ .bus op :: after ∧ HostAct.canFail (.bus op) = true ∧
      (runScript fails script).acts = before ++ [.bus op] := by
  obtain hdone | ⟨before, a, after, hscript, hfail, hcut⟩ := runScript_cases fails script
  · exact absurd (by rw [hdone]) h
  · obtain ⟨op, rfl⟩ := canFail_bus hfail
    exact ⟨before, op, after, hscript, hfail, by rw [hcut]⟩

theorem noCommand_runScript {fails : Option Nat} {script : List HostAct} (h : NoCommand script) :
    NoCommand (runScript fails script).acts := by
  obtain hdone | ⟨before, a, after, rfl, -, hcut⟩ := runScript_cases fails script
  · rwa [hdone]
  · rw [← List.singleton_append, ← List.append_assoc] at h
    rw [hcut]
    exact (noCommand_append.mp h).1

/-- Where a script ends in statements to the CPD, a failure cuts it before the first of these: they cannot fail. -/
theorem noCommand_of_cut {fails : Option Nat} {acts : List HostAct} {stmts : List Stmt} (hacts : NoCommand acts)
    (h : (runScript fails (acts ++ stmts.map .cpd)).outcome ≠ .completed) :
    NoCommand (runScript fails (acts ++ stmts.map .cpd)).acts := by
  obtain ⟨before, op, after, hscript, hfail, hcut⟩ := exists_runScript_cut h
  rw [hcut]
  obtain ⟨mid, -, hlate⟩ | ⟨mid, rfl, -⟩ := List.append_eq_append_iff.mp hscript
  · have hmem : HostAct.bus op ∈ stmts.map .cpd := hlate ▸ List.mem_append_right mid List.mem_cons_self
    cases (canFail_of_mem_cpd hmem).symm.trans hfail
  · exact noCommand_append.mpr ⟨(noCommand_append.mp hacts).1, noCommand_bus [op]⟩

theorem noCommand_andThen {t u : HostTrace} (ht : NoCommand t.acts) (hu : NoCommand u.acts) :
    NoCommand (t.andThen u).acts := by
  obtain ⟨-, heq⟩ | ⟨-, heq⟩ := andThen_cases t u
  · rw [heq]
    exact noCommand_append.mpr ⟨ht, hu⟩
  · rwa [heq]

/-- The humidity driver's one command stands behind the reset, the wait and the measurement's bus transactions. -/
theorem noCommand_humidityInvocation {limit : Option Nat} {b : HumidityBus}
    (h : (humidityInvocation limit b).outcome ≠ .completed) : NoCommand (humidityInvocation limit b).acts := by
  have hbefore : NoCommand ((runScript b.resetFails (humidityReset.map .bus)).andThen
      (traceOfWait (awaitCalibration limit b.polls))).acts :=
    noCommand_andThen (noCommand_runScript (noCommand_bus _)) (noCommand_bus _)
  rw [humidityInvocation] at h ⊢
  obtain ⟨-, heq⟩ | ⟨-, heq⟩ := andThen_cases ((runScript b.resetFails (humidityReset.map .bus)).andThen
    (traceOfWait (awaitCalibration limit b.polls))) _
  · rw [heq] at h ⊢
    exact noCommand_append.mpr ⟨hbefore, noCommand_of_cut (noCommand_bus _) h⟩
  · rwa [heq]

/-- The pressure driver's acts before the compensation: the reset, the table, and the raw counts. -/
def pressureLoad (reload : Bool) (b : PressureBus) : List HostAct :=
  pressureReset.map .bus ++ (if reload then calibrationScript b else []) ++
    [.bus rawTemperatureRead, .cpd (.ldadct b.temperature[0] b.temperature[1] b.temperature[2]),
      .bus rawPressureRead, .cpd (.ldadcp b.pressure[0] b.pressure[1] b.pressure[2])]

theorem pressureScript_eq (reload : Bool) (how : CompensateBy) (b : PressureBus) :
    pressureScript reload how b = pressureLoad reload b ++ (compensateProgram how ++ pressureReads).map .cpd :=
  (List.append_assoc ..).symm

theorem noCommand_calibrationScript (b : PressureBus) : NoCommand (calibrationScript b) :=
  noCommand_append.mpr ⟨noCommand_bus calibrationReads, by simp [NoCommand]⟩

theorem noCommand_pressureLoad (reload : Bool) (b : PressureBus) : NoCommand (pressureLoad reload b) := by
  refine noCommand_append.mpr ⟨noCommand_append.mpr ⟨noCommand_bus pressureReset, ?table⟩, by simp [NoCommand]⟩
  case table =>
    cases reload with
    | false => exact noCommand_bus []
    | true => exact noCommand_calibrationScript b

theorem fields_driverReturn_of_aborted {e : InvocationEnd} (h : e = .transportError ∨ e = .calibrationTimeout)
    (r : Option (ℚ × ℚ)) : (driverReturn e r).fields = some none := by
  obtain rfl | rfl := h <;> rfl

/-- Settles O51: in both drivers every bus transaction comes before the first command, so no cut leaves one among the
acts; and an abort returns its error, not the CPD's outputs. -/
theorem abortedInvocationIssuesNoCommand : Obligations.AbortedInvocationIssuesNoCommand := by
  refine ⟨fun limit b r habort => ⟨?humidity, fields_driverReturn_of_aborted habort r⟩,
    fun reload how b r habort => ⟨?pressure, ?cut, fields_driverReturn_of_aborted (.inl habort) r⟩,
    fun reload how b hfails => ?completed⟩
  case humidity =>
    refine cmd_notMem_stmts_iff.mpr (noCommand_humidityInvocation fun hdone => ?_)
    rw [hdone] at habort
    exact habort.elim nofun nofun
  case pressure =>
    rw [cmd_notMem_stmts_iff]
    rw [pressureInvocation, pressureScript_eq] at habort ⊢
    exact noCommand_of_cut (noCommand_pressureLoad reload b) (by rw [habort]; nofun)
  case cut => exact exists_runScript_cut (ne_of_eq_of_ne habort nofun)
  case completed =>
    rw [pressureInvocation, hfails, runScript_none]
    exact ⟨rfl, rfl⟩

end Sys2Proof.Machine
